-- ==== Sys2Proof/Word.lean ====
section
/-! DEFINITION. Bytes, four-fold groups (the four currencies, the four segment ports, the four places of a notice
class) and tables of a fixed number of records, with their plainest reads and writes. -/

namespace Sys2Proof

/-- One byte of a frame (section 8.6). -/
abbrev Byte := BitVec 8

/-- Four like things, one per currency (R2, R22), per segment port (R150) or per source place (R191). -/
structure Quad (α : Type) where
  c0 : α
  c1 : α
  c2 : α
  c3 : α
deriving DecidableEq, Repr

namespace Quad
variable {α β γ : Type}

def get (q : Quad α) (i : Fin 4) : α :=
  match i with
  | 0 => q.c0
  | 1 => q.c1
  | 2 => q.c2
  | 3 => q.c3

def set (q : Quad α) (i : Fin 4) (x : α) : Quad α :=
  match i with
  | 0 => { q with c0 := x }
  | 1 => { q with c1 := x }
  | 2 => { q with c2 := x }
  | 3 => { q with c3 := x }

/-- The same thing four times. -/
def const (x : α) : Quad α := ⟨x, x, x, x⟩

def map (f : α → β) (q : Quad α) : Quad β := ⟨f q.c0, f q.c1, f q.c2, f q.c3⟩

def zip (f : α → β → γ) (p : Quad α) (q : Quad β) : Quad γ :=
  ⟨f p.c0 q.c0, f p.c1 q.c1, f p.c2 q.c2, f p.c3 q.c3⟩

def toList (q : Quad α) : List α := [q.c0, q.c1, q.c2, q.c3]

def any (q : Quad α) (f : α → Bool) : Bool := f q.c0 || f q.c1 || f q.c2 || f q.c3

/-- The four things with each one's index in hand. -/
def tabulate (f : Fin 4 → α) : Quad α := ⟨f 0, f 1, f 2, f 3⟩

end Quad

/-- A table of exactly `n` records, indexed 0 to n - 1. -/
structure Tab (α : Type) (n : Nat) where
  rows : List α
  len  : rows.length = n
deriving DecidableEq, Repr

namespace Tab
variable {α β : Type} {n : Nat}

def get (t : Tab α n) (i : Fin n) : α := t.rows[i.val]'(by rw [t.len]; exact i.isLt)

def set (t : Tab α n) (i : Fin n) (x : α) : Tab α n :=
  ⟨t.rows.set i.val x, by rw [List.length_set, t.len]⟩

/-- Every record the same. -/
def const (n : Nat) (x : α) : Tab α n := ⟨List.replicate n x, List.length_replicate⟩

def map (f : α → β) (t : Tab α n) : Tab β n := ⟨t.rows.map f, by rw [List.length_map, t.len]⟩

/-- Every record by its index. -/
def tabulate (f : Fin n → α) : Tab α n := ⟨(List.finRange n).map f, by simp⟩

def mapIx (f : Fin n → α → β) (t : Tab α n) : Tab β n := tabulate fun i => f i (t.get i)

/-- The lowest index whose record passes. -/
def firstIx (t : Tab α n) (p : α → Bool) : Option (Fin n) := (List.finRange n).find? fun i => p (t.get i)

/-- The number of records that pass. -/
def count (t : Tab α n) (p : α → Bool) : Nat := (t.rows.filter p).length

end Tab

end Sys2Proof
end

