-- ==== Sys2Proof/Syntax.lean ====
section
/-! DEFINITION. The commands the part takes: one constructor per row of spec/opcode_table.json, with what comes from
outside the part in that step. -/

namespace Sys2Proof

/-- One of the five Tallylink ports: the uplink U or a segment port S0 to S3 (chapter 8). -/
inductive PortId where
  | u
  | s (i : Fin 4)
deriving DecidableEq, Repr

/-- A frame's header after the preamble (section 8.6, Tallylink frame). -/
structure FrameHeader where
  dst  : Byte
  src  : Byte
  kind : Byte
  /-- the payload length field -/
  len  : BitVec 16
deriving DecidableEq, Repr

/-- What follows a frame's header on the line: the bytes between header and CRC, and the CRC-16 as received. -/
structure FrameBody where
  payload : List Byte
  crc     : BitVec 16
deriving DecidableEq, Repr

/-- The commands. A station frame's row is the arrival of the last byte of the frame in hand at a segment port; a
queued command's row is the Management Engine acting on the command at the head of its queue (its parameters came in
the management frame, so the row carries none); an expiry's row names the timer. -/
inductive Instr where
  | powerOnReset
  | timeOfDayTick
  | linkUp (p : PortId)
  | linkDown (p : PortId)
  | segmentFrameHeader (p : Fin 4) (h : FrameHeader)
  | uplinkFrameHeader (h : FrameHeader)
  | receiveCheckFail (p : PortId) (b : FrameBody)
  | passFrame (p : Fin 4) (b : FrameBody)
  | announce (p : Fin 4) (b : FrameBody)
  | ready (p : Fin 4) (b : FrameBody)
  | admissionTimerExpiry (a : Byte)
  | tillOpen (p : Fin 4) (b : FrameBody)
  | tillTender (p : Fin 4) (b : FrameBody)
  | tillPaidout (p : Fin 4) (b : FrameBody)
  | tillPickup (p : Fin 4) (b : FrameBody)
  | tillClose (p : Fin 4) (b : FrameBody)
  | pickupTimerExpiry (t : Fin 160)
  | carryTimerExpiry (d : Fin 512)
  | dropRequest (p : Fin 4) (b : FrameBody)
  | dropDone (p : Fin 4) (b : FrameBody)
  | dropCancel (p : Fin 4) (b : FrameBody)
  | grantTimerExpiry (f : Fin 16)
  | bagOut (p : Fin 4) (b : FrameBody)
  | transferTimerExpiry (x : Fin 32)
  | bagIn (p : Fin 4) (b : FrameBody)
  | pouchIn (p : Fin 4) (b : FrameBody)
  | countOpen (p : Fin 4) (b : FrameBody)
  | countData (p : Fin 4) (b : FrameBody)
  | countRecount (p : Fin 4) (b : FrameBody)
  | countAbort (p : Fin 4) (b : FrameBody)
  | idleTimerExpiry (l : Fin 6)
  | countClose (p : Fin 4) (b : FrameBody)
  | release (p : Fin 4) (b : FrameBody)
  | arriveBeacon (p : Fin 4) (b : FrameBody)
  | arrivalQualificationExpiry (d : Fin 2)
  | arrivalGapExpiry (d : Fin 2)
  | custodyPresent (p : Fin 4) (b : FrameBody)
  | pairingTimerExpiry (d : Fin 2)
  | itemOut (p : Fin 4) (b : FrameBody)
  | itemIn (p : Fin 4) (b : FrameBody)
  | handoverEnd (p : Fin 4) (b : FrameBody)
  | departBeacon (p : Fin 4) (b : FrameBody)
  | departureQualificationExpiry (d : Fin 2)
  | departureGapExpiry (d : Fin 2)
  | handoverTimerExpiry (d : Fin 2)
  | lockoutTimerExpiry (d : Fin 2)
  | downstreamFrame (b : FrameBody)
  | destination255Frame (b : FrameBody)
  | managementFrame (b : FrameBody)
  | readStatus (b : FrameBody)
  | resume (b : FrameBody)
  | flush (b : FrameBody)
  | queueStall
  | opening
  | readPositions
  | purgeClosed
  | readDeposit
  | floatIssue
  | floatRecall
  | closeCall
  | readTill
  | readSafe
  | readLane
  | consignCreate
  | consignLoad
  | consignAdd
  | consignRemove
  | consignReady
  | consignCancel
  | openHandover
  | dockUnlock
  | readDock
  | faultClear
  | readFaults
  | tableWrite
  | tableRead
  | activate
  | portBankSwitch (p : PortId)
  | fence
  | fenceComplete
  | setTime
  | noticeEnable
  | readSources
  | softReset
  | segmentFrameSent (p : Fin 4)
  | uplinkFrameSent
  | waitingReplyPlaced
  | commonSlotGrant
  | outboundKindStationFrame (p : Fin 4) (b : FrameBody)
deriving DecidableEq, Repr

end Sys2Proof
end

