-- ==== Sys2Proof/Decode.lean ====
section
/-! DEFINITION. The word decoder the host asks for, over the rows of spec/opcode_table.json that give bits: no row does,
so no word spells a command. The byte layouts of frames and commands (section 8.6) are read in Machine/Operands.lean;
only the recognition of a one-command management payload stands here, because WellFormed needs it. -/

namespace Sys2Proof

/-- The command that a word spells by the table's bits. No row of the table gives bits. -/
def decodeTableWord (_nbits _w : Nat) : Option Instr := none

/-- A management payload that is exactly one whole command of the given code: header (tag, code, parameter length) and
parameters to the payload's end (section 8.6, Management command header; R186). -/
def oneCommand (code : Byte) (payload : List Byte) : Bool :=
  match payload with
  | _ :: _ :: c :: hi :: lo :: params => c == code && params.length == hi.toNat * 256 + lo.toNat
  | _ => false

end Sys2Proof
end

