-- ==== Sys2Proof/Config.lean ====
section
/-! DEFINITION. The numbers the manual fixes for the part. The manual leaves no value open, so no constant here is
without a body (DESIGN CHOICE, assumption 30). -/

namespace Sys2Proof.Config

/-- AMAX, the largest amount (R1). -/
abbrev amax : Int := 999999999999
/-- The largest movement amount (R1). -/
abbrev maxMovement : Nat := 99999999
/-- The largest count of pieces of one denomination (R1). -/
abbrev maxPieces : Nat := 9999999
/-- The largest raw scale reading (R1). -/
abbrev maxReading : Nat := 1048575
/-- Millionths of a base minor unit in one base minor unit (R3, R10). -/
abbrev million : Nat := 1000000
/-- The largest pouch or bag number, four bytes (section 8.6). -/
abbrev maxNumber : Nat := 4294967295
/-- Seconds of a day (R190). -/
abbrev daySeconds : Nat := 86400
/-- The longest payload a port takes (R151). -/
abbrev maxPayload : Nat := 1024
/-- Where an error count, and a till's pickup count, is held (R151, R54). -/
abbrev countHold : Nat := 65535
/-- Slots of a segment transmit queue (R153). -/
abbrev segSlots : Nat := 16
/-- Slots of the uplink queue that forwards may use (R154). -/
abbrev commonSlots : Nat := 56
/-- Slots of the uplink queue kept for replies and notices (R154). -/
abbrev keptSlots : Nat := 8
/-- Entries of the management queue (R186). -/
abbrev queueEntries : Nat := 32
/-- Pouches a bag holds at most (R78). -/
abbrev bagPouches : Nat := 40
/-- Entries an open bundle holds at most (R107). -/
abbrev bundleEntries : Nat := 64
/-- Items of a consignment at most (R123). -/
abbrev consignItems : Nat := 48
/-- Deliveries of one handover at most (R139). -/
abbrev handoverDeliveries : Nat := 16
/-- Where the consecutive lockout count is held (R143). -/
abbrev lockoutHold : Nat := 7
/-- Where a collapse count is held (R173). -/
abbrev collapseHold : Nat := 255

end Sys2Proof.Config
end

