-- ==== Sys2Proof/Machine/State.lean ====
section
/-! DEFINITION. The state of the part as plain data, the reasons a step could stop, and the state after power-on
reset. INVENTORY.md lists every field with the rule that names it. -/

namespace Sys2Proof.Machine
open Sys2Proof

/-- Why a step stops with a fault. The manual gives every command an effect in every state and calls nothing undefined,
so no meaning raises a fault and the type has no constructor. -/
inductive Fault
deriving DecidableEq, Repr

/-- Why a step is refused by the model. -/
inductive Refusal where
  /-- Raised by an arm of exec for a command that has no meaning yet; safe, since nothing then follows. No arm is left
  that raises it. -/
  | notModelled (mnemonic : String)
deriving DecidableEq, Repr

/-- One amount, or signed amount, per currency (R2). -/
abbrev Amounts := Quad Int

/-- The reason codes, in the order of their codes 1 to 44 (section 8.6). -/
inductive Reason where
  | malformed | unknownStation | wrongSegment | notAdmitted | kindNotPermitted | unreachable | badState
  | currencyDisabled | negativePosition | positionLimit | duplicateNumber | registerFull | depositBusy
  | unknownDeposit | unknownPouch | unknownNumber | noFloat | drawerOverdue | safeStopped | safeBusy | safeFull
  | notGranted | transferFull | staffNotPermitted | sameStaff | uncalibrated | bundleTooLong | countLimit | laneBusy
  | openBundle | consignmentFull | consignmentAtDock | courierUnknown | timeUnset | outsideWindow | pairingTimeout
  | handoverTimeout | dockLocked | incomplete | tableRange | activationPending | queueFull | discarded | unknownCommand
deriving DecidableEq, Repr

/-! ## Tables (chapters 1, 9 and 10) -/

/-- A station's role, with the unit index and the parameter its role has (R161): a role without them has 0 there (DEDUCED,
assumption 20). -/
inductive Role where
  | none
  | till (unit : Fin 160) (cls : Fin 8)
  | safe (unit : Fin 16)
  | counter (unit : Fin 6)
  | receiving
  | supervisor
  | dock (unit : Fin 2)
deriving DecidableEq, Repr

/-- An entry of the Station table (R161). -/
structure Station where
  role    : Role
  segment : Fin 4
  domain  : Fin 8
  pass    : Bool
deriving DecidableEq, Repr

/-- The form of a denomination (R5). -/
inductive Form where
  | note | coin
deriving DecidableEq, Repr

/-- An entry of the Denomination table: Z, W and N are the calibration (R5). -/
structure Denom where
  valid      : Bool
  currency   : Fin 4
  face       : Nat
  form       : Form
  calibrated : Bool
  zeroRead   : Nat
  refRead    : Nat
  refCount   : Nat
deriving DecidableEq, Repr

/-- An entry of the Rate table: millionths of a base minor unit (R3). -/
structure Rate where
  enabled : Bool
  rate    : Nat
deriving DecidableEq, Repr

/-- What an overdue till may take (R63). -/
inductive OverdueAction where
  | flag | refuseCash
deriving DecidableEq, Repr

/-- An entry of the Till class table; the pickup window is in minutes (R178). -/
structure TillClass where
  limit  : Nat
  window : Nat
  action : OverdueAction
deriving DecidableEq, Repr

/-- What a safe does when its test fires with the other bag full (R86). -/
inductive Overrun where
  | stop | overfill
deriving DecidableEq, Repr

/-- An entry of the Safe table (R178). -/
structure SafeEntry where
  threshold  : Nat
  valueLimit : Nat
  policy     : Overrun
deriving DecidableEq, Repr

/-- An entry of the Domain table (R178, R17). -/
structure DomainEntry where
  tabs : Nat
  tppt : Nat
deriving DecidableEq, Repr

/-- An entry of the Staff table; id 0 marks an empty entry (R178). -/
structure StaffEntry where
  id         : Nat
  domains    : BitVec 8
  keyHolder  : Bool
  supervisor : Bool
  counter    : Bool
deriving DecidableEq, Repr

/-- An entry of the Courier table; id 0 marks an empty entry (R178). -/
structure CourierEntry where
  id    : Nat
  valid : Bool
deriving DecidableEq, Repr

/-- An entry of the Schedule table (R178, R133). -/
structure ScheduleEntry where
  used  : Bool
  start : Nat
  stop  : Nat
deriving DecidableEq, Repr

/-- A dock's mode (R134). -/
inductive DockMode where
  | auto | manual
deriving DecidableEq, Repr

/-- The single entry of the Timing table (R179): seconds, but the carry/transfer window, the session idle window and the
handover limit are minutes. -/
structure Timing where
  dropGrant      : Nat
  carryTransfer  : Nat
  sessionIdle    : Nat
  admission      : Nat
  beaconGap      : Nat
  arrivalQual    : Nat
  departureQual  : Nat
  pairing        : Nat
  lockout        : Nat
  lockoutLimit   : Nat
  handoverLimit  : Nat
deriving DecidableEq, Repr

/-- One bank: one copy of every table (R177). Entries 0 and 255 of `stations` and entry 0 of `rates` are hard-wired and
read through `Tables.station` and `Tables.rate` (R161, R3). -/
structure Tables where
  stations    : Tab Station 256
  denoms      : Tab Denom 32
  rates       : Quad Rate
  tillClasses : Tab TillClass 8
  safes       : Tab SafeEntry 16
  domains     : Tab DomainEntry 8
  staff       : Tab StaffEntry 64
  couriers    : Tab CourierEntry 32
  schedule    : Tab ScheduleEntry 16
  dockModes   : Tab DockMode 2
  timing      : Timing
deriving DecidableEq, Repr

/-- The Table Store: the two numbered banks, which is ACTIVE, and the tag of the ACTIVATE whose activation is pending
(R177, R183). -/
structure TableStore where
  bank0      : Tables
  bank1      : Tables
  active     : Fin 2
  activation : Option (BitVec 16)
deriving DecidableEq, Repr

/-! ## Positions (chapter 2) -/

/-- The Position Table (R22). -/
structure Positions where
  drawer         : Tab Amounts 160
  transit        : Tab Amounts 160
  reserve        : Amounts
  suspect        : Amounts
  loaded         : Tab Amounts 8
  uncounted      : Amounts
  accountability : Amounts
  variance       : Amounts
deriving DecidableEq, Repr

/-! ## Deposits (chapter 3) -/

inductive DepositKind where
  | pickup | close | delivery
deriving DecidableEq, Repr

/-- The states of a record in use; an EMPTY record is `none` in the register (R37). -/
inductive DepositState where
  | carried | inSafe | inTransfer | awaitingCount | counting | consigned | discrepant | closed
deriving DecidableEq, Repr

inductive CloseOutcome where
  | counted | released | departed
deriving DecidableEq, Repr

/-- The bag positions A and B of a safe. -/
inductive BagSide where
  | a | b
deriving DecidableEq, Repr

/-- Who holds a deposit (R37). -/
inductive Holder where
  | safe (i : Fin 16) (side : BagSide)
  | transfer (x : Fin 32)
  | lane (l : Fin 6)
  | consignment (k : Fin 8)
deriving DecidableEq, Repr

inductive Verdict where
  | balanced | within | short | over
deriving DecidableEq, Repr

/-- Where a deposit came from (R37, source). -/
inductive Origin where
  | till (t : Fin 160)
  | dock (d : Fin 2)
deriving DecidableEq, Repr

/-- What a count close writes into a record (R46): present together or absent together (R38). -/
structure CountResult where
  counted  : Amounts
  suspect  : Amounts
  verdict  : Verdict
  variance : Int
deriving DecidableEq, Repr

/-- A deposit record in use (R37). -/
structure Deposit where
  state          : DepositState
  outcome        : Option CloseOutcome
  kind           : DepositKind
  number         : Nat
  source         : Origin
  declared       : Amounts
  base           : Int
  holder         : Option Holder
  result         : Option CountResult
  countingStaff  : Option Nat
  releasingStaff : Option Nat
  created        : Nat
  closed         : Option Nat
  carry          : Option Nat
  overdue        : Bool
deriving DecidableEq, Repr

/-! ## Tills, safes, transfers, lanes, consignments, docks (chapters 4 to 7) -/

/-- A timer that keeps its full length. -/
structure Timer where
  remaining : Nat
  full      : Nat
deriving DecidableEq, Repr

inductive TillState where
  | closed | floatTransit | opened | pickupDue | pickupOverdue
deriving DecidableEq, Repr

/-- A till record (R54). -/
structure Till where
  state       : TillState
  floatIssued : Option Amounts
  timer       : Option Timer
  closeCalled : Bool
  pickups     : Nat
  lastMove    : Option Nat
deriving DecidableEq, Repr

inductive SafeState where
  | running | stopped
deriving DecidableEq, Repr

inductive BagState where
  | empty | active | full
deriving DecidableEq, Repr

/-- A bag position; its pouch count is the length of its list (R77). -/
structure Bag where
  state   : BagState
  pouches : List (Fin 512)
  value   : Int
deriving DecidableEq, Repr

/-- A drop reservation (R77, R81). -/
structure Reservation where
  number  : Nat
  deposit : Fin 512
  side    : BagSide
  grant   : Nat
deriving DecidableEq, Repr

/-- A safe record; its collection-ready flag is computed from the position states (R77, R78). -/
structure Safe where
  state       : SafeState
  bagA        : Bag
  bagB        : Bag
  reservation : Option Reservation
  overfill    : Bool
deriving DecidableEq, Repr

/-- A transfer entry in use (R93). -/
structure Transfer where
  bag      : Nat
  safe     : Fin 16
  side     : BagSide
  deposits : List (Fin 512)
  value    : Int
  staff    : Nat
  timeOut  : Nat
  timer    : Option Timer
  late     : Bool
deriving DecidableEq, Repr

inductive BundleKind where
  | note | coin | suspect
deriving DecidableEq, Repr

/-- An entry of an open bundle (R100). -/
structure BundleEntry where
  kind  : BundleKind
  denom : Fin 32
  count : Nat
deriving DecidableEq, Repr

/-- What an OPEN lane holds beside its counts (R100). -/
structure Session where
  deposit : Fin 512
  staff   : Nat
  idle    : Timer
deriving DecidableEq, Repr

/-- A lane record: OPEN exactly while it holds a session (R100, R101). -/
structure Lane where
  session  : Option Session
  counts   : Tab Nat 32
  suspects : Tab Nat 32
  bundle   : List BundleEntry
deriving DecidableEq, Repr

inductive BagSource where
  | reserve | suspect
deriving DecidableEq, Repr

/-- An item of a consignment (R123). -/
inductive Item where
  | bag (number : Nat) (source : BagSource) (amounts : Amounts)
  | deposit (d : Fin 512)
deriving DecidableEq, Repr

structure ConsignLine where
  item    : Item
  scanned : Bool
deriving DecidableEq, Repr

inductive ConsignState where
  | free | building | ready | atDock
deriving DecidableEq, Repr

/-- A consignment record (R123); its loaded value is a position (R22). -/
structure Consignment where
  state : ConsignState
  dock  : Option (Fin 2)
  items : List ConsignLine
deriving DecidableEq, Repr

inductive DockState where
  | idle | qualifying | arrived | custody | exchange | released | departing | lockout | locked
deriving DecidableEq, Repr

/-- The terminal, the courier and the last kind of a handover: present together (R131). -/
structure Visit where
  station  : Byte
  segment  : Fin 4
  courier  : Nat
  lastKind : Byte
deriving DecidableEq, Repr

/-- The qualification start, the qualification timer and the gap timer: present together (R131). -/
structure Qualification where
  start : Nat
  qual  : Nat
  gap   : Nat
deriving DecidableEq, Repr

/-- A handover record (R131). -/
structure Handover where
  state      : DockState
  visit      : Option Visit
  qualify    : Option Qualification
  holders    : List Nat
  pairing    : Option Nat
  atDock     : List (Fin 8)
  deliveries : List (Fin 512)
  lockouts   : Nat
  limit      : Option Nat
  lockout    : Option Nat
deriving DecidableEq, Repr

/-- The records of chapters 2 to 7: the store's account of cash and where it is. -/
structure Books where
  pos        : Positions
  deposits   : Tab (Option Deposit) 512
  closeOrder : List (Fin 512)
  tills      : Tab Till 160
  safes      : Tab Safe 16
  transfers  : Tab (Option Transfer) 32
  lanes      : Tab Lane 6
  consigns   : Tab Consignment 8
  docks      : Tab Handover 2
deriving DecidableEq, Repr

/-! ## Ports and the uplink queue (chapter 8) -/

/-- A frame the part sends: header but its length, and payload; length and CRC follow from them (section 8.6; DEDUCED,
assumption 27). -/
structure TxFrame where
  dst     : Byte
  src     : Byte
  kind    : Byte
  payload : List Byte
deriving DecidableEq, Repr

/-- The frame in hand at a segment port: its header and its bank (R152). It holds a slot of the port's transmit queue
and a common uplink slot. -/
structure Hand where
  hdr  : FrameHeader
  bank : Fin 2
deriving DecidableEq, Repr

/-- A segment Port Unit (R150 to R155). `busy` and `line` are the model's own view of the two outputs: whether the last
header was answered BUSY, and the frame last sent (DESIGN CHOICE, assumption 26). -/
structure SegPort where
  up      : Bool
  bank    : Fin 2
  hand    : Option Hand
  queue   : List TxFrame
  errors  : Nat
  waiting : Bool
  granted : Bool
  busy    : Bool
  line    : Option TxFrame
deriving DecidableEq, Repr

/-- The frame in hand at U, with the segment queue it holds a slot of, if any (R157, R158). -/
structure UpHand where
  hdr  : FrameHeader
  room : Option (Fin 4)
deriving DecidableEq, Repr

/-- The uplink Port Unit, but for its transmit queue (R150, R151, R157). -/
structure UpPort where
  up     : Bool
  bank   : Fin 2
  hand   : Option UpHand
  errors : Nat
  busy   : Bool
  line   : Option TxFrame
deriving DecidableEq, Repr

/-- What a frame of the uplink queue is (R154). -/
inductive UpClass where
  | forward | reply | notice
deriving DecidableEq, Repr

structure UpFrame where
  cls   : UpClass
  frame : TxFrame
deriving DecidableEq, Repr

/-- A reply before it is placed: its status summary is built when it is placed (R187). -/
structure Reply where
  tag     : BitVec 16
  code    : Byte
  refusal : Option Reason
  result  : List Byte
deriving DecidableEq, Repr

/-- Which command a reply completes when it is placed (R187). -/
inductive Completes where
  | nothing
  | head
  | activate
  | fence (notify : Bool)
deriving DecidableEq, Repr

/-- A reply or notice that waits for a slot (R154). -/
inductive WaitItem where
  | reply (r : Reply) (c : Completes)
  | notice (cls : Fin 8)
deriving DecidableEq, Repr

/-- The five ports, the uplink queue, its waiting list, the arbiter's pointer and the movement number (R150 to R160). -/
structure Links where
  segs     : Quad SegPort
  uport    : UpPort
  uplink   : List UpFrame
  waits    : List WaitItem
  pointer  : Fin 4
  movement : BitVec 32
deriving DecidableEq, Repr

/-! ## Admission, faults, management, notices (chapters 9 and 11) -/

/-- An admission entry, with the port and the timer its state has (R166). -/
inductive Admission where
  | absent
  | welcomed (port : Fin 4) (timer : Nat)
  | admitted (port : Fin 4)
  | failed (port : Fin 4)
deriving DecidableEq, Repr

/-- A set fault record (R171). -/
structure FaultRecord where
  station  : Byte
  segment  : PortId
  kind     : Byte
  reason   : Reason
  time     : Nat
  collapse : Nat
deriving DecidableEq, Repr

/-- The Fault Recorder (R171): a clear record is `none`. -/
structure Recorder where
  records  : Tab (Option FaultRecord) 8
  overflow : Bool
  first    : Option (Fin 8)
deriving DecidableEq, Repr

/-- A command as a management frame carries it (section 8.6). -/
structure Command where
  tag    : BitVec 16
  code   : Byte
  params : List Byte
deriving DecidableEq, Repr

/-- What the command at the head has come to (R187): not yet acted on; acted on with its reply waiting; or a FENCE that
waits for the earlier commands. -/
inductive HeadPhase where
  | fresh | replyWaiting | fenceWaiting
deriving DecidableEq, Repr

/-- The management queue (R186 to R188). -/
structure Mgmt where
  queue   : List Command
  stalled : Bool
  phase   : HeadPhase
deriving DecidableEq, Repr

/-- A notice class: its sources by their place in R191's list, its enable and its pending flag. -/
structure NoticeClass where
  sources : Quad Bool
  enabled : Bool
  pending : Bool
deriving DecidableEq, Repr

/-- The time of day and TIME_UNSET (R190). -/
structure Clock where
  tod   : Nat
  unset : Bool
deriving DecidableEq, Repr

/-! ## The machine -/

/-- The whole state: the Table Store, the records of chapters 2 to 7, the ports, admission by station address (entries 0
and 255 stay absent), the Fault Recorder, the management queue, the eight notice classes, the clock, and the queue of
commands the outside has yet to be answered for. -/
structure State where
  store     : TableStore
  books     : Books
  links     : Links
  admission : Tab Admission 256
  recorder  : Recorder
  mgmt      : Mgmt
  notices   : Tab NoticeClass 8
  clock     : Clock
  pending   : List Instr
deriving DecidableEq, Repr

/-! ## Power-on values -/

/-- No amount in any currency. -/
def noAmounts : Amounts := Quad.const 0

/-- R161: role NONE, segment 0, domain 0, pass no. -/
def Station.powerOn : Station := ⟨.none, 0, 0, false⟩

/-- R5: valid clear, currency 0, face 1, NOTE, no calibration. The calibration fields' values of an entry without one
are the lowest of their ranges (DESIGN CHOICE, assumption 4). -/
def Denom.powerOn : Denom := ⟨false, 0, 1, .note, false, 0, 0, 1⟩

/-- R3: visitor currencies disabled with R = 1; entry 0 is hard-wired. -/
def Rate.powerOn : Rate := ⟨false, 1⟩

/-- R179. -/
def Timing.powerOn : Timing := ⟨30, 30, 20, 3, 2, 5, 5, 60, 120, 3, 30⟩

/-- The power-on values of every table (R3, R5, R161, R178, R179). -/
def Tables.powerOn : Tables :=
  { stations := Tab.const 256 Station.powerOn
    denoms := Tab.const 32 Denom.powerOn
    rates := Quad.const Rate.powerOn
    tillClasses := Tab.const 8 ⟨0, 1, .flag⟩
    safes := Tab.const 16 ⟨1, 0, .stop⟩
    domains := Tab.const 8 ⟨0, 0⟩
    staff := Tab.const 64 ⟨0, 0, false, false, false⟩
    couriers := Tab.const 32 ⟨0, false⟩
    schedule := Tab.const 16 ⟨false, 0, 0⟩
    dockModes := Tab.const 2 .auto
    timing := Timing.powerOn }

/-- R177: bank 0 is ACTIVE and no activation is pending. -/
def TableStore.powerOn : TableStore := ⟨Tables.powerOn, Tables.powerOn, 0, none⟩

/-- R22: every amount is 0. -/
def Positions.powerOn : Positions :=
  { drawer := Tab.const 160 noAmounts
    transit := Tab.const 160 noAmounts
    reserve := noAmounts
    suspect := noAmounts
    loaded := Tab.const 8 noAmounts
    uncounted := noAmounts
    accountability := noAmounts
    variance := noAmounts }

/-- R54. -/
def Till.powerOn : Till := ⟨.closed, none, none, false, 0, none⟩

/-- R77: RUNNING, A ACTIVE and empty, B EMPTY. -/
def Safe.powerOn : Safe := ⟨.running, ⟨.active, [], 0⟩, ⟨.empty, [], 0⟩, none, false⟩

/-- An IDLE lane (R100, R101). -/
def Lane.idle : Lane := ⟨none, Tab.const 32 0, Tab.const 32 0, []⟩

/-- A FREE consignment (R123). -/
def Consignment.free : Consignment := ⟨.free, none, []⟩

/-- R131: IDLE with a lockout count of 0 and no other field. -/
def Handover.powerOn : Handover := ⟨.idle, none, none, [], none, [], [], 0, none, none⟩

/-- R22, R53, R54, R77, R93, R100, R123, R131. -/
def Books.powerOn : Books :=
  { pos := Positions.powerOn
    deposits := Tab.const 512 none
    closeOrder := []
    tills := Tab.const 160 Till.powerOn
    safes := Tab.const 16 Safe.powerOn
    transfers := Tab.const 32 none
    lanes := Tab.const 6 Lane.idle
    consigns := Tab.const 8 Consignment.free
    docks := Tab.const 2 Handover.powerOn }

/-- R150, R151, R153, R155, R177: DOWN, bank 0, nothing in hand, queue empty, no error, not waiting, nothing granted. -/
def SegPort.powerOn : SegPort := ⟨false, 0, none, [], 0, false, false, false, none⟩

/-- R150, R151, R177. -/
def UpPort.powerOn : UpPort := ⟨false, 0, none, 0, false, none⟩

/-- R150 to R160. -/
def Links.powerOn : Links := ⟨Quad.const SegPort.powerOn, UpPort.powerOn, [], [], 0, 0⟩

/-- The machine right after power-on reset (R22, R53, R54, R77, R93, R100, R123, R131, R150 to R156, R160, R166, R171,
R177, R186, R190, R191). -/
def State.reset : State :=
  { store := TableStore.powerOn
    books := Books.powerOn
    links := Links.powerOn
    admission := Tab.const 256 .absent
    recorder := ⟨Tab.const 8 none, false, none⟩
    mgmt := ⟨[], false, .fresh⟩
    notices := Tab.const 8 ⟨Quad.const false, false, false⟩
    clock := ⟨0, true⟩
    pending := [] }

end Sys2Proof.Machine
end

