-- ==== Sys2Proof/Machine/Codec.lean ====
section
/-! DEFINITION. The byte layouts of section 8.6: numbers, the CRC-16, kind, command and reason codes, result fields, and
the enumerated codes (the place of a value in the list by which its rule defines it). -/

namespace Sys2Proof.Machine
open Sys2Proof

/-! ## Numbers, most significant byte first -/

/-- The value of bytes sent most significant first. -/
def beValue (bs : List Byte) : Nat := bs.foldl (fun acc b => acc * 256 + b.toNat) 0

/-- `n` bytes of a number, most significant first. -/
def beBytes : Nat → Nat → List Byte
  | 0, _ => []
  | n + 1, v => BitVec.ofNat 8 (v / 256 ^ n) :: beBytes n v

/-- A signed or unsigned 8-byte amount, two's complement. -/
def amountBytes (v : Int) : List Byte := beBytes 8 (BitVec.ofInt 64 v).toNat

/-- Four amounts in currency order, 32 bytes. -/
def listBytes (q : Amounts) : List Byte := (q.toList.map amountBytes).flatten

/-- A flag: 1 is set or yes. -/
def flagByte (b : Bool) : List Byte := [if b then 1 else 0]

/-- One byte of an index or a code. -/
def oneByte (v : Nat) : List Byte := beBytes 1 v

/-- A count of records, items, entries, tills, stations or commands; a timer's seconds; an id; a deposit index. -/
def twoBytes (v : Nat) : List Byte := beBytes 2 v

/-- A pouch or bag number; a time of day. -/
def fourBytes (v : Nat) : List Byte := beBytes 4 v

/-- A count of pieces, as a count record carries it. -/
def piecesBytes (v : Nat) : List Byte := beBytes 3 v

/-- A result that may be absent: a flag byte, then its bytes where it is present. -/
def maybeBytes {α : Type} (f : α → List Byte) : Option α → List Byte
  | none => [0]
  | some x => 1 :: f x

/-- A list of variable length: a 2-byte count of its members, then the members. -/
def listOf {α : Type} (f : α → List Byte) (xs : List α) : List Byte := twoBytes xs.length ++ (xs.map f).flatten

/-! ## CRC-16 and the receive check -/

/-- One bit of the CRC with generator x^16 + x^12 + x^5 + 1, most significant bit first. -/
def crcBit (c : BitVec 16) : BitVec 16 := if c.msb then (c <<< 1) ^^^ 0x1021 else c <<< 1

def crcByte (c : BitVec 16) (b : Byte) : BitVec 16 :=
  let c := c ^^^ ((b.setWidth 16) <<< 8)
  crcBit (crcBit (crcBit (crcBit (crcBit (crcBit (crcBit (crcBit c)))))))

/-- The CRC-16: initial value FFFF, no final inversion (section 8.6). -/
def crc16 (bs : List Byte) : BitVec 16 := bs.foldl crcByte 0xFFFF

/-- What the CRC covers: destination through the last payload byte. -/
def crcCover (dst src kind : Byte) (len : Nat) (payload : List Byte) : List Byte :=
  dst :: src :: kind :: twoBytes len ++ payload

/-- The receive check (R151): the CRC matches, the length field is at most 1,024, and the bytes between header and CRC
are as many as it says. -/
def receiveOk (h : FrameHeader) (b : FrameBody) : Bool :=
  b.crc == crc16 (crcCover h.dst h.src h.kind h.len.toNat b.payload) && decide (h.len.toNat ≤ Config.maxPayload)
    && b.payload.length == h.len.toNat

/-- A frame as it leaves a port: preamble, header, payload and CRC (section 8.6). -/
def TxFrame.bytes (f : TxFrame) : List Byte :=
  let cover := crcCover f.dst f.src f.kind f.payload.length f.payload
  [0x5A, 0xC3] ++ cover ++ twoBytes (crc16 cover).toNat

/-! ## Frame kinds (section 8.6, R162) -/

/-- The kinds the part owns and acts on. -/
inductive OwnedKind where
  | announce | ready
  | tillOpen | tillTender | tillPaidout | tillPickup | tillClose
  | dropRequest | dropDone | dropCancel | bagOut
  | bagIn | pouchIn
  | countOpen | countData | countRecount | countAbort | countClose
  | release
  | arriveBeacon | departBeacon | custodyPresent | itemOut | itemIn | handoverEnd
deriving DecidableEq, Repr

/-- What a kind byte is: an owned kind, one of the part's own outbound kinds, or a PASS kind. -/
inductive KindClass where
  | owned (k : OwnedKind)
  | outbound
  | pass
deriving DecidableEq, Repr

def OwnedKind.code : OwnedKind → Byte
  | .announce => 0x01 | .ready => 0x02
  | .tillOpen => 0x10 | .tillTender => 0x11 | .tillPaidout => 0x12 | .tillPickup => 0x13 | .tillClose => 0x14
  | .dropRequest => 0x20 | .dropDone => 0x21 | .dropCancel => 0x22 | .bagOut => 0x23
  | .bagIn => 0x28 | .pouchIn => 0x29
  | .countOpen => 0x30 | .countData => 0x31 | .countRecount => 0x32 | .countAbort => 0x33 | .countClose => 0x34
  | .release => 0x38
  | .arriveBeacon => 0x40 | .departBeacon => 0x41 | .custodyPresent => 0x42 | .itemOut => 0x43 | .itemIn => 0x44
  | .handoverEnd => 0x45

/-- Every owned kind, in the order of the table of kinds. -/
def ownedKinds : List OwnedKind :=
  [.announce, .ready, .tillOpen, .tillTender, .tillPaidout, .tillPickup, .tillClose, .dropRequest, .dropDone,
   .dropCancel, .bagOut, .bagIn, .pouchIn, .countOpen, .countData, .countRecount, .countAbort, .countClose, .release,
   .arriveBeacon, .departBeacon, .custodyPresent, .itemOut, .itemIn, .handoverEnd]

def kindAnswer : Byte := 0xF0
def kindPickupCall : Byte := 0xF1
def kindCloseCall : Byte := 0xF2
def kindNotice : Byte := 0xF3
def kindReply : Byte := 0xF4

/-- The class of a kind byte: every code that the table of kinds does not name is a PASS kind. -/
def kindClass (c : Byte) : KindClass :=
  match ownedKinds.find? fun k => k.code == c with
  | some k => .owned k
  | none =>
    if [kindAnswer, kindPickupCall, kindCloseCall, kindNotice, kindReply].contains c then .outbound else .pass

/-! ## Codes -/

/-- Reason codes 1 to 44. -/
def Reason.code : Reason → Nat
  | .malformed => 1 | .unknownStation => 2 | .wrongSegment => 3 | .notAdmitted => 4 | .kindNotPermitted => 5
  | .unreachable => 6 | .badState => 7 | .currencyDisabled => 8 | .negativePosition => 9 | .positionLimit => 10
  | .duplicateNumber => 11 | .registerFull => 12 | .depositBusy => 13 | .unknownDeposit => 14 | .unknownPouch => 15
  | .unknownNumber => 16 | .noFloat => 17 | .drawerOverdue => 18 | .safeStopped => 19 | .safeBusy => 20
  | .safeFull => 21 | .notGranted => 22 | .transferFull => 23 | .staffNotPermitted => 24 | .sameStaff => 25
  | .uncalibrated => 26 | .bundleTooLong => 27 | .countLimit => 28 | .laneBusy => 29 | .openBundle => 30
  | .consignmentFull => 31 | .consignmentAtDock => 32 | .courierUnknown => 33 | .timeUnset => 34
  | .outsideWindow => 35 | .pairingTimeout => 36 | .handoverTimeout => 37 | .dockLocked => 38 | .incomplete => 39
  | .tableRange => 40 | .activationPending => 41 | .queueFull => 42 | .discarded => 43 | .unknownCommand => 44

def TillState.code : TillState → Nat
  | .closed => 0 | .floatTransit => 1 | .opened => 2 | .pickupDue => 3 | .pickupOverdue => 4

def SafeState.code : SafeState → Nat
  | .running => 0 | .stopped => 1

def BagState.code : BagState → Nat
  | .empty => 0 | .active => 1 | .full => 2

def BagSide.code : BagSide → Nat
  | .a => 0 | .b => 1

/-- EMPTY is 0, so the states of a record in use are 1 to 8 (R37). -/
def DepositState.code : DepositState → Nat
  | .carried => 1 | .inSafe => 2 | .inTransfer => 3 | .awaitingCount => 4 | .counting => 5 | .consigned => 6
  | .discrepant => 7 | .closed => 8

def CloseOutcome.code : CloseOutcome → Nat
  | .counted => 0 | .released => 1 | .departed => 2

def DepositKind.code : DepositKind → Nat
  | .pickup => 0 | .close => 1 | .delivery => 2

def Verdict.code : Verdict → Nat
  | .balanced => 0 | .within => 1 | .short => 2 | .over => 3

/-- The kind of a bundle entry in a READ_LANE reply: its place in R100's list (NOTE, COIN, SUSPECT), and not the code 3 that
SUSPECT has as the kind of a count record (DEDUCED, assumption 32). -/
def BundleKind.code : BundleKind → Nat
  | .note => 0 | .coin => 1 | .suspect => 2

def BagSource.code : BagSource → Nat
  | .reserve => 0 | .suspect => 1

def ConsignState.code : ConsignState → Nat
  | .free => 0 | .building => 1 | .ready => 2 | .atDock => 3

def DockState.code : DockState → Nat
  | .idle => 0 | .qualifying => 1 | .arrived => 2 | .custody => 3 | .exchange => 4 | .released => 5 | .departing => 6
  | .lockout => 7 | .locked => 8

def Role.code : Role → Nat
  | .none => 0 | .till _ _ => 1 | .safe _ => 2 | .counter _ => 3 | .receiving => 4 | .supervisor => 5 | .dock _ => 6

/-- The unit index a role holds (R161). -/
def Role.unit : Role → Nat
  | .till t _ => t.val | .safe f => f.val | .counter l => l.val | .dock d => d.val
  | .none => 0 | .receiving => 0 | .supervisor => 0

/-- The parameter a role holds (R161). -/
def Role.param : Role → Nat
  | .till _ cls => cls.val
  | .none => 0 | .safe _ => 0 | .counter _ => 0 | .receiving => 0 | .supervisor => 0 | .dock _ => 0

/-- S0 to S3, then U (R171). -/
def portCode : PortId → Nat
  | .s i => i.val
  | .u => 4

/-- Who holds a deposit: the form's place in R37's list, the index, and for a safe the position. -/
def Holder.bytes : Holder → List Byte
  | .safe i side => oneByte 0 ++ oneByte i.val ++ oneByte side.code
  | .transfer x => oneByte 1 ++ oneByte x.val
  | .lane l => oneByte 2 ++ oneByte l.val
  | .consignment k => oneByte 3 ++ oneByte k.val

def Origin.bytes : Origin → List Byte
  | .till t => oneByte t.val
  | .dock d => oneByte d.val

def Timer.bytes (t : Timer) : List Byte := twoBytes t.remaining ++ twoBytes t.full

end Sys2Proof.Machine
end

