-- ==== Sys2Proof/Machine/Operands.lean ====
section
/-! DEFINITION. The operands of frames and commands: every payload and parameter layout of section 8.6 read from its
bytes. A reader that answers `none` says that the payload is malformed (R163) or the parameters are malformed (R188). -/

namespace Sys2Proof.Machine
open Sys2Proof

/-! ## Fields -/

/-- A number of `n` bytes at the front, and the bytes after it. -/
def number (n : Nat) (bs : List Byte) : Option (Nat × List Byte) :=
  if bs.length < n then none else some (beValue (bs.take n), bs.drop n)

/-- A number of `n` bytes in the range `lo` to `hi`. -/
def ranged (n lo hi : Nat) (bs : List Byte) : Option (Nat × List Byte) :=
  match number n bs with
  | some (v, rest) => if lo ≤ v ∧ v ≤ hi then some (v, rest) else none
  | none => none

/-- An index below `m`, sent in `n` bytes. -/
def index (m n : Nat) (bs : List Byte) : Option (Fin m × List Byte) :=
  match number n bs with
  | some (v, rest) => if h : v < m then some (⟨v, h⟩, rest) else none
  | none => none

/-- A flag: 0 is clear or no, any other value set or yes. -/
def flag (bs : List Byte) : Option (Bool × List Byte) :=
  match bs with
  | b :: rest => some (b != 0, rest)
  | [] => none

/-- A value, if no byte is left. -/
def whole {α : Type} (x : α) (rest : List Byte) : Option α := if rest.isEmpty then some x else none

/-- A pouch or bag number, 1 to 4,294,967,295: 0 is none (R39). -/
def containerNumber (bs : List Byte) : Option (Nat × List Byte) := ranged 4 1 Config.maxNumber bs

def movementAmount (bs : List Byte) : Option (Nat × List Byte) := ranged 8 0 Config.maxMovement bs

/-- The pairs of a declared list as the frame or command names them (R2). -/
abbrev DeclaredList := List (Fin 4 × Nat)

def readPairs : Nat → List Byte → Option (DeclaredList × List Byte)
  | 0, bs => some ([], bs)
  | n + 1, bs => do
    let (c, bs) ← index 4 1 bs
    let (v, bs) ← movementAmount bs
    let (ps, bs) ← readPairs n bs
    some ((c, v) :: ps, bs)

/-- No currency appears twice (R2). -/
def distinctCurrencies : DeclaredList → Bool
  | [] => true
  | p :: ps => ps.all (fun q => q.1 != p.1) && distinctCurrencies ps

/-- A declared list: 1 to 4 pairs of distinct currencies with movement amounts (R2). -/
def declaredList (bs : List Byte) : Option (DeclaredList × List Byte) := do
  let (n, bs) ← ranged 1 1 4 bs
  let (ps, bs) ← readPairs n bs
  if distinctCurrencies ps then some (ps, bs) else none

/-- The amount a declared list names for a currency; a currency absent from it stands as 0 (R2). -/
def declaredAmount (ps : DeclaredList) (c : Fin 4) : Int :=
  match ps.find? fun p => p.1 == c with
  | some p => p.2
  | none => 0

/-- A declared list as it is stored (R2). -/
def storedList (ps : DeclaredList) : Amounts := Quad.tabulate (declaredAmount ps)

/-! ## Station payloads -/

/-- ANNOUNCE, READY, COUNT_RECOUNT, COUNT_ABORT, COUNT_CLOSE, HANDOVER_END: no bytes. -/
def readNothing (bs : List Byte) : Option Unit := whole () bs

/-- A PASS kind's payload is not examined (R163). -/
def readAnything (_bs : List Byte) : Option Unit := some ()

/-- TILL_OPEN. -/
def readDeclared (bs : List Byte) : Option DeclaredList := do
  let (ps, bs) ← declaredList bs
  whole ps bs

/-- TILL_TENDER: the tendered currency and amount, and the base change (R62). -/
structure Tender where
  currency : Fin 4
  amount   : Nat
  change   : Nat
deriving DecidableEq, Repr

def readTender (bs : List Byte) : Option Tender := do
  let (c, bs) ← index 4 1 bs
  let (a, bs) ← movementAmount bs
  let (b, bs) ← movementAmount bs
  whole ⟨c, a, b⟩ bs

/-- TILL_PAIDOUT (R64). -/
structure PaidOut where
  currency : Fin 4
  amount   : Nat
deriving DecidableEq, Repr

def readPaidOut (bs : List Byte) : Option PaidOut := do
  let (c, bs) ← index 4 1 bs
  let (a, bs) ← movementAmount bs
  whole ⟨c, a⟩ bs

/-- TILL_PICKUP, TILL_CLOSE and ITEM_IN: a number and a declared list (R65, R66, R139). -/
structure Container where
  number : Nat
  list   : DeclaredList
deriving DecidableEq, Repr

def readContainer (bs : List Byte) : Option Container := do
  let (n, bs) ← containerNumber bs
  let (ps, bs) ← declaredList bs
  whole ⟨n, ps⟩ bs

/-- DROP_REQUEST, DROP_DONE, DROP_CANCEL and ITEM_OUT: a number. -/
def readContainerNumber (bs : List Byte) : Option Nat := do
  let (n, bs) ← containerNumber bs
  whole n bs

/-- A bag position: A is 0, B is 1. -/
def bagSide (bs : List Byte) : Option (BagSide × List Byte) :=
  match index 2 1 bs with
  | some (i, rest) => some (if i = 0 then .a else .b, rest)
  | none => none

/-- BAG_OUT (R90). -/
structure BagOut where
  side  : BagSide
  bag   : Nat
  staff : Nat
deriving DecidableEq, Repr

def readBagOut (bs : List Byte) : Option BagOut := do
  let (side, bs) ← bagSide bs
  let (n, bs) ← containerNumber bs
  let (staff, bs) ← number 2 bs
  whole ⟨side, n, staff⟩ bs

/-- BAG_IN and POUCH_IN: a number and a staff id (R95, R96). -/
structure Received where
  number : Nat
  staff  : Nat
deriving DecidableEq, Repr

def readReceived (bs : List Byte) : Option Received := do
  let (n, bs) ← containerNumber bs
  let (staff, bs) ← number 2 bs
  whole ⟨n, staff⟩ bs

/-- COUNT_OPEN and RELEASE: a deposit index and a staff id other than 0 (R103, R104, R119). -/
structure DepositStaff where
  deposit : Fin 512
  staff   : Nat
deriving DecidableEq, Repr

def readDepositStaff (bs : List Byte) : Option DepositStaff := do
  let (d, bs) ← index 512 2 bs
  let (staff, bs) ← ranged 2 1 65535 bs
  whole ⟨d, staff⟩ bs

/-- The kinds of a count record (R106). -/
inductive RecordKind where
  | note | coin | weigh | suspect
deriving DecidableEq, Repr

/-- A count record (section 8.6, Count record). -/
structure CountRecord where
  kind  : RecordKind
  last  : Bool
  denom : Fin 32
  value : Nat
deriving DecidableEq, Repr

def recordKind (b : Byte) : RecordKind :=
  match (b >>> 6).toNat with
  | 0 => .note
  | 1 => .coin
  | 2 => .weigh
  | _ => .suspect

/-- One 4-byte count record; a count above 9,999,999 or a reading above 1,048,575 is out of range (R1, R103). -/
def readCountRecord (bs : List Byte) : Option (CountRecord × List Byte) :=
  match bs with
  | b0 :: b1 :: b2 :: b3 :: rest =>
    let kind := recordKind b0
    let value := beValue [b1, b2, b3]
    let top := if kind = .weigh then Config.maxReading else Config.maxPieces
    if value ≤ top then
      some (⟨kind, b0.getLsbD 5, ⟨b0.toNat % 32, Nat.mod_lt _ (by decide)⟩, value⟩, rest)
    else none
  | _ => none

def readCountRecords : Nat → List Byte → Option (List CountRecord × List Byte)
  | 0, bs => some ([], bs)
  | n + 1, bs => do
    let (r, bs) ← readCountRecord bs
    let (rs, bs) ← readCountRecords n bs
    some (r :: rs, bs)

/-- COUNT_DATA: 1 to 64 count records (R103, R106). -/
def readCountData (bs : List Byte) : Option (List CountRecord) := do
  let (n, bs) ← ranged 1 1 64 bs
  let (rs, bs) ← readCountRecords n bs
  whole rs bs

/-- ARRIVE_BEACON and DEPART_BEACON (a courier id, 1 to 65,535) and CUSTODY_PRESENT (a staff id). Field encodings give
both ids 0 to 65,535, so 0 is well formed; no table entry answers to it (R178; DEDUCED, assumption 23). -/
def readId (bs : List Byte) : Option Nat := do
  let (n, bs) ← number 2 bs
  whole n bs

/-! ## Command parameters -/

def readIndex (m : Nat) (bs : List Byte) : Option (Fin m) := do
  let (i, bs) ← index m 1 bs
  whole i bs

/-- A range of records: a first index and a count of 1 to `most`, not running past the last of `m` records. -/
def range (m most n : Nat) (bs : List Byte) : Option ((Fin m × Nat) × List Byte) := do
  let (i, bs) ← index m n bs
  let (c, bs) ← ranged 1 1 most bs
  if i.val + c ≤ m then some ((i, c), bs) else none

/-- The indices of a range, in order. -/
def rangeOf {m : Nat} (r : Fin m × Nat) : List (Fin m) :=
  (List.finRange m).filter fun i => r.1.val ≤ i.val && i.val < r.1.val + r.2

/-- READ_POSITIONS' selectors (R36). -/
inductive PositionsSel where
  | central
  | tills (r : Fin 160 × Nat)
  | consignments
deriving DecidableEq, Repr

def readPositionsSel (bs : List Byte) : Option PositionsSel := do
  let (s, bs) ← number 1 bs
  match s with
  | 0 => whole .central bs
  | 1 => do
    let (r, bs) ← range 160 32 1 bs
    whole (.tills r) bs
  | 2 => whole .consignments bs
  | _ => none

/-- READ_DEPOSIT's selectors (R52). -/
inductive DepositSel where
  | index (r : Fin 512 × Nat)
  | number (n : Nat)
  | summary
deriving DecidableEq, Repr

def readDepositSel (bs : List Byte) : Option DepositSel := do
  let (s, bs) ← number 1 bs
  match s with
  | 0 => do
    let (r, bs) ← range 512 16 2 bs
    whole (.index r) bs
  | 1 => do
    let (n, bs) ← containerNumber bs
    whole (.number n) bs
  | 2 => whole .summary bs
  | _ => none

/-- FLOAT_ISSUE: a till and the float list (R58). -/
structure FloatIssue where
  till : Fin 160
  list : DeclaredList
deriving DecidableEq, Repr

def readFloatIssue (bs : List Byte) : Option FloatIssue := do
  let (t, bs) ← index 160 1 bs
  let (ps, bs) ← declaredList bs
  whole ⟨t, ps⟩ bs

/-- CLOSE_CALL's masks; an absent mask is not read (R74). -/
structure CloseCall where
  classes  : Option (BitVec 8)
  segments : Option (BitVec 4)
deriving DecidableEq, Repr

/-- Both masks absent, a present mask that names nothing, and a segment bit above S3 are malformed (R74). -/
def readCloseCall (bs : List Byte) : Option CloseCall :=
  match bs with
  | [cp, cm, sp, sm] =>
    let classes := if cp = 0 then none else some cm
    let segments := if sp = 0 then none else some (sm.setWidth 4)
    if cp = 0 ∧ sp = 0 then none
    else if cp ≠ 0 ∧ cm = 0 then none
    else if sp ≠ 0 ∧ (sm = 0 ∨ 16 ≤ sm.toNat) then none
    else some ⟨classes, segments⟩
  | _ => none

/-- READ_TILL's selectors (R75). -/
inductive TillSel where
  | index (r : Fin 160 × Nat)
  | summary
deriving DecidableEq, Repr

def readTillSel (bs : List Byte) : Option TillSel := do
  let (s, bs) ← number 1 bs
  match s with
  | 0 => do
    let (r, bs) ← range 160 32 1 bs
    whole (.index r) bs
  | 1 => whole .summary bs
  | _ => none

/-- READ_SAFE's selectors (R98). -/
inductive SafeSel where
  | safe (r : Fin 16 × Nat)
  | transfer (r : Fin 32 × Nat)
deriving DecidableEq, Repr

def readSafeSel (bs : List Byte) : Option SafeSel := do
  let (s, bs) ← number 1 bs
  match s with
  | 0 => do
    let (r, bs) ← range 16 16 1 bs
    whole (.safe r) bs
  | 1 => do
    let (r, bs) ← range 32 32 1 bs
    whole (.transfer r) bs
  | _ => none

/-- READ_LANE (R121). -/
def readLaneRange (bs : List Byte) : Option (Fin 6 × Nat) := do
  let (r, bs) ← range 6 6 1 bs
  whole r bs

/-- CONSIGN_LOAD (R126). -/
structure ConsignLoad where
  consignment : Fin 8
  source      : BagSource
  bag         : Nat
  list        : DeclaredList
deriving DecidableEq, Repr

def readConsignLoad (bs : List Byte) : Option ConsignLoad := do
  let (k, bs) ← index 8 1 bs
  let (src, bs) ← index 2 1 bs
  let (n, bs) ← containerNumber bs
  let (ps, bs) ← declaredList bs
  whole ⟨k, if src = 0 then .reserve else .suspect, n, ps⟩ bs

/-- CONSIGN_ADD (R127). -/
structure ConsignAdd where
  consignment : Fin 8
  deposit     : Fin 512
deriving DecidableEq, Repr

def readConsignAdd (bs : List Byte) : Option ConsignAdd := do
  let (k, bs) ← index 8 1 bs
  let (d, bs) ← index 512 2 bs
  whole ⟨k, d⟩ bs

/-- How CONSIGN_REMOVE names an item (R128). -/
inductive ItemName where
  | bag (number : Nat)
  | deposit (d : Fin 512)
deriving DecidableEq, Repr

structure ConsignRemove where
  consignment : Fin 8
  item        : ItemName
deriving DecidableEq, Repr

/-- The deposit index stands in the low 2 of 4 bytes with the high 2 bytes 0 (section 8.6, Commands). -/
def readConsignRemove (bs : List Byte) : Option ConsignRemove := do
  let (k, bs) ← index 8 1 bs
  let (form, bs) ← number 1 bs
  match form with
  | 0 => do
    let (n, bs) ← containerNumber bs
    whole ⟨k, .bag n⟩ bs
  | 1 => do
    let (d, bs) ← index 512 4 bs
    whole ⟨k, .deposit d⟩ bs
  | _ => none

/-- READ_DOCK's selectors (R148). -/
inductive DockSel where
  | handover (r : Fin 2 × Nat)
  | consignment (r : Fin 8 × Nat)
deriving DecidableEq, Repr

def readDockSel (bs : List Byte) : Option DockSel := do
  let (s, bs) ← number 1 bs
  match s with
  | 0 => do
    let (r, bs) ← range 2 2 1 bs
    whole (.handover r) bs
  | 1 => do
    let (r, bs) ← range 8 8 1 bs
    whole (.consignment r) bs
  | _ => none

/-- FAULT_CLEAR: a set of records and the overflow clear flag (R175). -/
structure FaultClear where
  records  : BitVec 8
  overflow : Bool
deriving DecidableEq, Repr

def readFaultClear (bs : List Byte) : Option FaultClear :=
  match bs with
  | [r, o] => some ⟨r, o != 0⟩
  | _ => none

/-- The tables, in the order of their codes 0 to 10 (R177). -/
inductive TableName where
  | station | denom | rate | tillClass | safe | domain | staff | courier | schedule | dockCfg | timing
deriving DecidableEq, Repr

def tableNames : List TableName :=
  [.station, .denom, .rate, .tillClass, .safe, .domain, .staff, .courier, .schedule, .dockCfg, .timing]

/-- The number of entries of a table (R177). -/
def TableName.entries : TableName → Nat
  | .station => 256 | .denom => 32 | .rate => 4 | .tillClass => 8 | .safe => 16 | .domain => 8 | .staff => 64
  | .courier => 32 | .schedule => 16 | .dockCfg => 2 | .timing => 1

/-- The bytes of one entry of a table (section 8.6, Table entries). -/
def TableName.entrySize : TableName → Nat
  | .station => 6 | .denom => 18 | .rate => 5 | .tillClass => 11 | .safe => 10 | .domain => 6 | .staff => 4
  | .courier => 3 | .schedule => 9 | .dockCfg => 1 | .timing => 13

/-- Which entries a TABLE_WRITE or TABLE_READ names (R180). -/
structure EntryRange where
  table  : TableName
  start  : Nat
  count  : Nat
  stride : Nat
deriving DecidableEq, Repr

/-- start, start + stride, ..., start + (count - 1) * stride (R180). -/
def EntryRange.indices (r : EntryRange) : List Nat := (List.range r.count).map fun i => r.start + i * r.stride

/-- Some index to be named is at or beyond the table's number of entries (R180). -/
def EntryRange.beyond (r : EntryRange) : Bool := r.indices.any fun i => decide (r.table.entries ≤ i)

def readEntryRange (bs : List Byte) : Option (EntryRange × List Byte) := do
  let (t, bs) ← number 1 bs
  let (start, bs) ← number 2 bs
  let (count, bs) ← ranged 1 1 64 bs
  let (stride, bs) ← number 1 bs
  let table ← tableNames[t]?
  if stride = 1 ∨ stride = 8 ∨ stride = 64 then some (⟨table, start, count, stride⟩, bs) else none

/-- TABLE_WRITE: the range and exactly its entries (R180). -/
structure TableWrite where
  range   : EntryRange
  content : List Byte
deriving DecidableEq, Repr

def readTableWrite (bs : List Byte) : Option TableWrite := do
  let (r, bs) ← readEntryRange bs
  if bs.length = r.count * r.table.entrySize then some ⟨r, bs⟩ else none

/-- TABLE_READ: STAGED or not, and the range (R182). -/
structure TableRead where
  staged : Bool
  range  : EntryRange
deriving DecidableEq, Repr

def readTableRead (bs : List Byte) : Option TableRead := do
  let (b, bs) ← index 2 1 bs
  let (r, bs) ← readEntryRange bs
  whole ⟨b = 1, r⟩ bs

/-- FENCE's notify flag (R187). -/
def readNotify (bs : List Byte) : Option Bool := do
  let (f, bs) ← flag bs
  whole f bs

/-- SET_TIME: a time of day, 0 to 86,399 (R190). -/
def readTimeOfDay (bs : List Byte) : Option Nat := do
  let (t, bs) ← ranged 4 0 86399 bs
  whole t bs

/-- NOTICE_ENABLE: the classes to enable and to disable; a class named in both is malformed (R192). -/
structure NoticeEnable where
  enable  : BitVec 8
  disable : BitVec 8
deriving DecidableEq, Repr

def readNoticeEnable (bs : List Byte) : Option NoticeEnable :=
  match bs with
  | [e, d] => if e &&& d = 0 then some ⟨e, d⟩ else none
  | _ => none

/-! ## Cutting a management frame (R186) -/

/-- Commands back to back, cut with `fuel` at least the number of bytes; none where a header or a parameter block runs
past the end. -/
def cutCommands : Nat → List Byte → Option (List Command)
  | 0, bs => if bs.isEmpty then some [] else none
  | fuel + 1, bs =>
    match bs with
    | [] => some []
    | t1 :: t0 :: c :: hi :: lo :: rest =>
      let p := beValue [hi, lo]
      if rest.length < p then none
      else (cutCommands fuel (rest.drop p)).map fun cs => ⟨t1 ++ t0, c, rest.take p⟩ :: cs
    | _ => none

/-- The commands of a management payload; an empty payload cannot be cut (R186). -/
def commandsOf (payload : List Byte) : Option (List Command) :=
  if payload.isEmpty then none else cutCommands payload.length payload

/-- READ_STATUS, RESUME and FLUSH bypass the queue (R186). -/
def immediateCode (c : Byte) : Bool := c == 0x1E || c == 0x1F || c == 0x20

end Sys2Proof.Machine
end

