-- ==== Sys2Proof/Machine/Valuation.lean ====
section
/-! DEFINITION. The Valuation Unit (chapter 1) and the reads of the tables of one bank that the owning blocks make. It
holds no state (R21): each function's answer depends on its inputs and the tables it is given. -/

namespace Sys2Proof.Machine
open Sys2Proof

/-! ## Hard-wired table entries and plain reads -/

/-- The Rate entry of a currency: entry 0 reads enabled with R = 1,000,000 at all times (R3). -/
def Tables.rate (T : Tables) (c : Fin 4) : Rate := if c = 0 then ⟨true, Config.million⟩ else T.rates.get c

/-- A currency is enabled in a bank (R4). -/
def Tables.enabled (T : Tables) (c : Fin 4) : Bool := (T.rate c).enabled

/-- The Station entry of an address: entries 0 and 255 read role NONE at all times (R161). -/
def Tables.station (T : Tables) (a : Byte) : Station :=
  let e := T.stations.get a.toFin
  if a = 0 ∨ a = 255 then { e with role := .none } else e

/-- Every currency a declared list names is enabled, whatever its amount (R4). -/
def Tables.currenciesEnabled (T : Tables) (ps : DeclaredList) : Bool := ps.all fun p => T.enabled p.1

/-- Some Staff entry holds the id, has the domain in its set, and passes `needs`; id 0 matches no entry (R89, R104, R119,
R136, R178). -/
def Tables.staffPasses (T : Tables) (id : Nat) (domain : Fin 8) (needs : StaffEntry → Bool) : Bool :=
  id != 0 && T.staff.rows.any fun e => e.id == id && e.domains.getLsbD domain.val && needs e

/-- Some Courier entry holding the id has its valid flag set; id 0 marks an empty entry (R133, R178). -/
def Tables.courierValid (T : Tables) (id : Nat) : Bool :=
  id != 0 && T.couriers.rows.any fun e => e.id == id && e.valid

/-- A Schedule entry holds a time of day (R133). -/
def ScheduleEntry.holds (e : ScheduleEntry) (t : Nat) : Bool := e.used && decide (e.start ≤ t) && decide (t < e.stop)

/-- Some Schedule entry of the dock holds the time of day: entries 0 to 7 are dock 0's, 8 to 15 dock 1's (R133). -/
def Tables.inWindow (T : Tables) (d : Fin 2) (t : Nat) : Bool :=
  (List.finRange 16).any fun i => i.val / 8 == d.val && (T.schedule.get i).holds t

/-! ## Rounding and conversion -/

/-- The exact quotient `n / d` rounded half up (R7). -/
def roundHalfUp (n d : Nat) : Nat := if 2 * (n % d) < d then n / d else n / d + 1

/-- The exact quotient `n / d` rounded half to even (R10). -/
def roundHalfEven (n d : Nat) : Nat :=
  if 2 * (n % d) < d then n / d
  else if d < 2 * (n % d) then n / d + 1
  else if n / d % 2 = 0 then n / d else n / d + 1

/-- The count a raw reading gives under a calibration (Z, W, N), clamped to 9,999,999 (R7). -/
def weighCount (z w n r : Nat) : Nat :=
  if r ≤ z then 0 else min (roundHalfUp ((r - z) * n) (w - z)) Config.maxPieces

/-- The value `x` held within -AMAX to +AMAX, and whether it was saturated (R11, R12). -/
def saturate (x : Int) : Int × Bool :=
  if Config.amax < x then (Config.amax, true) else if x < -Config.amax then (-Config.amax, true) else (x, false)

/-- conv(v, c): the magnitude converted and rounded half to even, the sign put back, saturated (R10, R11). -/
def Tables.conv (T : Tables) (v : Int) (c : Fin 4) : Int × Bool :=
  let q : Int := roundHalfEven (v.natAbs * (T.rate c).rate) Config.million
  saturate (if v < 0 then -q else q)

/-- One term of a base equivalent: a disabled currency contributes 0 (R12). -/
def Tables.term (T : Tables) (x : Amounts) (c : Fin 4) : Int × Bool :=
  if T.enabled c then T.conv (x.get c) c else (0, false)

/-- base(x): the terms summed exactly and saturated once, and whether anything saturated (R12). -/
def Tables.base (T : Tables) (x : Amounts) : Int × Bool :=
  let t := Quad.tabulate (T.term x)
  let s := saturate (t.c0.1 + t.c1.1 + t.c2.1 + t.c3.1)
  (s.1, s.2 || t.any Prod.snd)

/-! ## Count records -/

/-- The denomination's form a record kind needs (R6). -/
def RecordKind.form : RecordKind → Form
  | .note => .note
  | .coin => .coin
  | .weigh => .coin
  | .suspect => .note

/-- The kind a record has in the open bundle: a WEIGH record becomes a COIN entry (R7, R100). -/
def RecordKind.held : RecordKind → BundleKind
  | .note => .note
  | .coin => .coin
  | .weigh => .coin
  | .suspect => .suspect

/-- The checks 1 to 4 of R107 on a count record, and the entry it becomes. -/
def Tables.takeRecord (T : Tables) (r : CountRecord) : Except Reason BundleEntry :=
  let d := T.denoms.get r.denom
  if !d.valid then .error .badState
  else if !T.enabled d.currency then .error .currencyDisabled
  else if d.form ≠ r.kind.form then .error .badState
  else if r.kind = .weigh then
    if !d.calibrated ∨ d.refRead ≤ d.zeroRead then .error .uncalibrated
    else .ok ⟨.coin, r.denom, weighCount d.zeroRead d.refRead d.refCount r.value⟩
  else .ok ⟨r.kind.held, r.denom, r.value⟩

/-! ## The close of a count session (R9, R16 to R19) -/

/-- The face value of counts in one currency (R9). -/
def Tables.faceValue (T : Tables) (counts : Tab Nat 32) (c : Fin 4) : Int :=
  ((List.finRange 32).map fun d =>
    if (T.denoms.get d).currency = c then (counts.get d * (T.denoms.get d).face : Int) else 0).sum

/-- The counted and the suspect list of committed totals, or the reason they cannot be valued (R9; that the suspect
counts are looked at too is DEDUCED, assumption 16). -/
def Tables.valueTotals (T : Tables) (counts suspects : Tab Nat 32) : Except Reason (Amounts × Amounts) :=
  let used := (List.finRange 32).filter fun d => counts.get d != 0 || suspects.get d != 0
  let c := Quad.tabulate (T.faceValue counts)
  let s := Quad.tabulate (T.faceValue suspects)
  if used.any fun d => !(T.denoms.get d).valid then .error .badState
  else if used.any fun d => !T.enabled (T.denoms.get d).currency then .error .currencyDisabled
  else if c.any (fun v => decide (Config.amax < v)) || s.any (fun v => decide (Config.amax < v)) then
    .error .positionLimit
  else .ok (c, s)

/-- The verdict from the per-currency variances, the base variance and the allowed variance (R18). -/
def verdictOf (v : Amounts) (base allowed : Int) : Verdict :=
  if !v.any (fun x => x != 0) then .balanced
  else if -allowed ≤ base ∧ base ≤ allowed then .within
  else if base < -allowed then .short
  else .over

/-- The allowed variance of a close: Tabs + floor(Dbase * Tppt / 10,000), clamped to AMAX (R17). -/
def allowedVariance (e : DomainEntry) (dbase : Int) : Int := min (e.tabs + dbase * e.tppt / 10000) Config.amax

/-- What the Valuation Unit hands back for a close (R16 to R18). -/
structure CloseValue where
  result    : CountResult
  allowed   : Int
  saturated : Bool
deriving DecidableEq, Repr

/-- The close of a count session in the order of R16. -/
def Tables.closeValue (T : Tables) (domain : Fin 8) (declared : Amounts) (counts suspects : Tab Nat 32) :
    Except Reason CloseValue :=
  match T.valueTotals counts suspects with
  | .error r => .error r
  | .ok (c, s) =>
    if (List.finRange 4).any fun i => declared.get i != 0 && !T.enabled i then .error .currencyDisabled
    else
      let v := c.zip (· - ·) declared
      let base := T.base v
      let dbase := T.base declared
      let allowed := allowedVariance (T.domains.get domain) dbase.1
      .ok ⟨⟨c, s, verdictOf v base.1 allowed, base.1⟩, allowed, base.2 || dbase.2⟩

/-- The close leaves the deposit CLOSED with outcome COUNTED, and not DISCREPANT (R19). -/
def CountResult.clean (r : CountResult) : Bool :=
  (r.verdict == .balanced || r.verdict == .within) && !r.suspect.any (fun x => x != 0)

end Sys2Proof.Machine
end

