-- ==== Sys2Proof/Machine/Positions.lean ====
section
/-! DEFINITION. The Position Table (chapter 2): movements, their check, and their application whole (R24), with the
movements of R27 to R34. -/

namespace Sys2Proof.Machine
open Sys2Proof

def addLists (a b : Amounts) : Amounts := a.zip (· + ·) b
def subLists (a b : Amounts) : Amounts := a.zip (· - ·) b
def negList (a : Amounts) : Amounts := a.map (- ·)

/-- The amount `v` in one currency. -/
def only (c : Fin 4) (v : Int) : Amounts := Quad.tabulate fun i => if i = c then v else 0

/-- A movement: the change it makes to each position it names (R24). At most one till is named, with the changes of its
drawer and of its float in transit. -/
structure Move where
  till           : Option (Fin 160 × Amounts × Amounts) := none
  loaded         : List (Fin 8 × Amounts) := []
  reserve        : Amounts := noAmounts
  suspect        : Amounts := noAmounts
  uncounted      : Amounts := noAmounts
  accountability : Amounts := noAmounts
  variance       : Amounts := noAmounts

/-- The value of every position after a movement (R24). -/
def Positions.after (p : Positions) (m : Move) : Positions :=
  { drawer := match m.till with
      | some (t, d, _) => p.drawer.set t (addLists (p.drawer.get t) d)
      | none => p.drawer
    transit := match m.till with
      | some (t, _, f) => p.transit.set t (addLists (p.transit.get t) f)
      | none => p.transit
    reserve := addLists p.reserve m.reserve
    suspect := addLists p.suspect m.suspect
    loaded := m.loaded.foldl (fun l x => l.set x.1 (addLists (l.get x.1) x.2)) p.loaded
    uncounted := addLists p.uncounted m.uncounted
    accountability := addLists p.accountability m.accountability
    variance := addLists p.variance m.variance }

/-- The final values a movement is checked by, but for the variance account: those of the till and the consignments it
names and of the central positions (R24). A central position that it does not change keeps a value in range
(DEDUCED, assumption 18). -/
def Move.finals (m : Move) (q : Positions) : List Amounts :=
  (match m.till with
    | some (t, _, _) => [q.drawer.get t, q.transit.get t]
    | none => [])
  ++ m.loaded.map (fun x => q.loaded.get x.1)
  ++ [q.reserve, q.suspect, q.uncounted, q.accountability]

/-- Some final value would be below 0 (R24). -/
def Move.belowZero (m : Move) (q : Positions) : Bool := (m.finals q).any fun l => l.any fun v => decide (v < 0)

/-- Some final value would be above AMAX, or some variance outside -AMAX to +AMAX (R24). -/
def Move.beyondLimit (m : Move) (q : Positions) : Bool :=
  (m.finals q).any (fun l => l.any fun v => decide (Config.amax < v))
    || q.variance.any fun v => decide (v < -Config.amax) || decide (Config.amax < v)

/-- A movement presented to the Position Table is applied whole or refused with its reason (R24). -/
def Positions.present (p : Positions) (m : Move) : Except Reason Positions :=
  let q := p.after m
  if m.belowZero q then .error .negativePosition
  else if m.beyondLimit q then .error .positionLimit
  else .ok q

/-! ## The movements -/

/-- R27. -/
def openingMove (l : Amounts) : Move := { reserve := l, accountability := l }

/-- R28. -/
def floatIssueMove (t : Fin 160) (f : Amounts) : Move := { till := some (t, noAmounts, f), reserve := negList f }

/-- R28. -/
def floatRecallMove (p : Positions) (t : Fin 160) : Move :=
  { till := some (t, noAmounts, negList (p.transit.get t)), reserve := p.transit.get t }

/-- R29. -/
def floatConfirmMove (p : Positions) (t : Fin 160) (g : Amounts) : Move :=
  { till := some (t, g, negList (p.transit.get t)), variance := subLists g (p.transit.get t) }

/-- R30: both changes may fall on the base positions. -/
def tenderMove (t : Fin 160) (c : Fin 4) (a b : Int) : Move :=
  let d := addLists (only c a) (only 0 (-b))
  { till := some (t, d, noAmounts), accountability := d }

/-- R30. -/
def paidOutMove (t : Fin 160) (c : Fin 4) (a : Int) : Move :=
  { till := some (t, only c (-a), noAmounts), accountability := only c (-a) }

/-- R31. -/
def pickupMove (t : Fin 160) (l : Amounts) : Move := { till := some (t, negList l, noAmounts), uncounted := l }

/-- R31: the drawer is set to 0 and P - drawer goes to the variance account. -/
def closeMove (p : Positions) (t : Fin 160) (l : Amounts) : Move :=
  { till := some (t, negList (p.drawer.get t), noAmounts)
    uncounted := l
    variance := subLists l (p.drawer.get t) }

/-- R32. -/
def deliveryMove (l : Amounts) : Move := { uncounted := l, accountability := l }

/-- R32. -/
def countCloseMove (d c s : Amounts) : Move :=
  { uncounted := negList d, reserve := c, suspect := s, variance := subLists (addLists c s) d }

/-- The change of a bag item's source position. -/
def sourceChange (src : BagSource) (l : Amounts) : Move :=
  match src with
  | .reserve => { reserve := l }
  | .suspect => { suspect := l }

/-- R33. -/
def loadMove (k : Fin 8) (src : BagSource) (l : Amounts) : Move :=
  { sourceChange src (negList l) with loaded := [(k, l)] }

/-- The sum of the amounts lists. -/
def sumLists (ls : List Amounts) : Amounts := ls.foldl addLists noAmounts

/-- R33: the bag items given go back to their sources in one movement. -/
def unloadMove (k : Fin 8) (bags : List (BagSource × Amounts)) : Move :=
  { loaded := bags.map fun b => (k, negList b.2)
    reserve := sumLists ((bags.filter fun b => b.1 == .reserve).map Prod.snd)
    suspect := sumLists ((bags.filter fun b => b.1 == .suspect).map Prod.snd) }

/-- R34: the loaded values of the consignments and the declared lists of the deposits leave the account. -/
def departureMove (p : Positions) (ks : List (Fin 8)) (declared : List Amounts) : Move :=
  { loaded := ks.map fun k => (k, negList (p.loaded.get k))
    uncounted := negList (sumLists declared)
    accountability := negList (addLists (sumLists (ks.map p.loaded.get)) (sumLists declared)) }

/-! ## Totals (R23, R36) -/

/-- The sum of a table of lists in one currency. -/
def columnSum {n : Nat} (t : Tab Amounts n) (c : Fin 4) : Int := (t.rows.map fun l => l.get c).sum

/-- The held total of a currency (R23). -/
def Positions.held (p : Positions) (c : Fin 4) : Int :=
  columnSum p.drawer c + columnSum p.transit c + p.reserve.get c + p.suspect.get c + columnSum p.loaded c
    + p.uncounted.get c

/-- The accounted total of a currency (R23). -/
def Positions.accounted (p : Positions) (c : Fin 4) : Int := p.accountability.get c + p.variance.get c

/-- Every amount of the account is 0 (R27). -/
def Positions.allZero (p : Positions) : Bool :=
  let zero (l : Amounts) : Bool := !l.any fun v => v != 0
  p.drawer.rows.all zero && p.transit.rows.all zero && zero p.reserve && zero p.suspect && p.loaded.rows.all zero
    && zero p.uncounted && zero p.accountability && zero p.variance

end Sys2Proof.Machine
end

