-- ==== Sys2Proof/Machine/Register.lean ====
section
/-! DEFINITION. What a station frame or command is judged by and what its owner answers, and the Deposit Register
(chapter 3): numbers in use, allocation, creation, claims, the carry timer. -/

namespace Sys2Proof.Machine
open Sys2Proof

/-! ## A frame before its owner, and the owner's ruling -/

/-- A station frame that has passed the receive check: where it came from, the bank it is handled under with that bank's
tables and the sender's Station entry, and the clock (R20, R56, R165, R177). -/
structure Ctx where
  port    : Fin 4
  src     : Byte
  kind    : Byte
  payload : List Byte
  bank    : Fin 2
  tab     : Tables
  entry   : Station
  clock   : Clock

/-- The seventeen notice sources (R191). -/
inductive Source where
  | newFault | overflow
  | pickupOverdue
  | bagFull | overfill | safeStopped
  | carryOverdue | transferLate
  | sessionExpired | discrepantDeposit
  | arrival | released | departureUnconfirmed | dockFault
  | stalled | fenceDone
  | admissionFailed
deriving DecidableEq, Repr

/-- What follows a refusal in the same event: nothing, a report to the Fault Recorder (R164, R80, R103, R132), or a dock
fault (R132, R143). -/
inductive After where
  | nothing
  | report
  | dockFault (d : Fin 2)
deriving DecidableEq, Repr

/-- An owner's acceptance: its changed records, the result fields, the payload of a PICKUP_CALL to follow (R69), and the
notice sources it sets. -/
structure Accepted (σ : Type) where
  next    : σ
  result  : List Byte := []
  call    : Option (List Byte) := none
  sources : List Source := []

/-- An owner's ruling on a frame. A refusal carries the reason, the record place (R103), a result block, and the records,
which only R84 and R143 let differ from those before. -/
inductive Ruling (σ : Type) where
  | refuse (r : Reason) (place : Nat) (result : List Byte) (after : After) (next : σ)
  | accept (a : Accepted σ)

/-- A refusal that changes nothing. -/
def Ruling.no {σ : Type} (r : Reason) (s : σ) : Ruling σ := .refuse r 0 [] .nothing s

/-- A refusal that is reported to the Fault Recorder. -/
def Ruling.reported {σ : Type} (r : Reason) (s : σ) : Ruling σ := .refuse r 0 [] .report s

/-- The ruling on other records. -/
def Ruling.on {σ τ : Type} (f : σ → τ) : Ruling σ → Ruling τ
  | .refuse r place result after s => .refuse r place result after (f s)
  | .accept a => .accept { next := f a.next, result := a.result, call := a.call, sources := a.sources }

/-! ## Claims (R43) -/

/-- The record at an index if it is in the required state, else the reason of the refusal. -/
def Books.claim (bk : Books) (i : Fin 512) (required : DepositState) (otherLive gone : Reason) :
    Except Reason Deposit :=
  match bk.deposits.get i with
  | none => .error gone
  | some d => if d.state = required then .ok d else if d.state = .closed then .error gone else .error otherLive

/-- One record changed. -/
def Books.setDeposit (bk : Books) (i : Fin 512) (d : Deposit) : Books :=
  { bk with deposits := bk.deposits.set i (some d) }

/-- Several records changed in one event (R45, R48). -/
def Books.changeDeposits (bk : Books) (is : List (Fin 512)) (f : Deposit → Deposit) : Books :=
  { bk with deposits := bk.deposits.mapIx fun i d => if is.contains i then d.map f else d }

/-! ## Numbers in use (R39) -/

/-- A record in use is live unless it is CLOSED (R37). -/
def Deposit.live (d : Deposit) : Bool := d.state != .closed

/-- The live record that carries a number: at most one does (R39, R43). -/
def Books.findLive (bk : Books) (n : Nat) : Option (Fin 512) :=
  bk.deposits.firstIx fun d => d.any fun d => d.live && d.number == n

/-- A bag item of a consignment in BUILDING, READY or AT_DOCK carries the number. -/
def Books.bagItemCarries (bk : Books) (n : Nat) : Bool :=
  bk.consigns.rows.any fun k => k.state != .free && k.items.any fun l =>
    match l.item with
    | .bag m _ _ => m == n
    | .deposit _ => false

/-- R39. -/
def Books.numberInUse (bk : Books) (n : Nat) : Bool := (bk.findLive n).isSome || bk.bagItemCarries n

/-! ## Allocation and creation (R40, R41) -/

/-- The record the next creation request takes: the lowest EMPTY one, else the first of the close order (R41). -/
def Books.allocate (bk : Books) : Option (Fin 512) :=
  match bk.deposits.firstIx fun d => d.isNone with
  | some i => some i
  | none => bk.closeOrder.head?

/-- A creation request (R40). -/
structure Creation where
  kind   : DepositKind
  number : Nat
  source : Origin
  list   : DeclaredList

/-- The record a creation writes (R40, R13, R50): CARRIED with a carry timer, or AWAITING_COUNT for a DELIVERY. -/
def Creation.record (c : Creation) (T : Tables) (tod : Nat) : Deposit :=
  { state := if c.kind = .delivery then .awaitingCount else .carried
    outcome := none
    kind := c.kind
    number := c.number
    source := c.source
    declared := storedList c.list
    base := (T.base (storedList c.list)).1
    holder := none
    result := none
    countingStaff := none
    releasingStaff := none
    created := tod
    closed := none
    carry := if c.kind = .delivery then none else some (T.timing.carryTransfer * 60)
    overdue := false }

/-- The three steps of R40: the number, the space, the owner's movement; then the record is written. -/
def Books.create (bk : Books) (T : Tables) (tod : Nat) (c : Creation) (m : Move) : Except Reason (Books × Fin 512) :=
  if bk.numberInUse c.number then .error .duplicateNumber
  else match bk.allocate with
    | none => .error .registerFull
    | some i =>
      match bk.pos.present m with
      | .error r => .error r
      | .ok pos =>
        .ok ({ bk with
          pos := pos
          deposits := bk.deposits.set i (some (c.record T tod))
          closeOrder := bk.closeOrder.erase i }, i)

/-- A movement with no deposit. -/
def Books.move (bk : Books) (m : Move) : Except Reason Books :=
  match bk.pos.present m with
  | .error r => .error r
  | .ok pos => .ok { bk with pos := pos }

/-! ## Closing and returning -/

/-- The record as it leaves COUNTING or CONSIGNED for AWAITING_COUNT (R46, R48). -/
def Deposit.returned (d : Deposit) : Deposit :=
  { d with state := .awaitingCount, holder := none, countingStaff := none }

/-- The record as it becomes CLOSED (R37). -/
def Deposit.close (d : Deposit) (o : CloseOutcome) (tod : Nat) : Deposit :=
  { d with state := .closed, outcome := some o, holder := none, closed := some tod }

/-- Records closed by one event join the close order in ascending index order (R41). -/
def Books.joinCloseOrder (bk : Books) (is : List (Fin 512)) : Books :=
  { bk with closeOrder := bk.closeOrder ++ (List.finRange 512).filter fun i => is.contains i }

/-! ## The carry timer (R50) -/

/-- The expiry of a CARRIED record's carry timer that has run down: OVERDUE is set. -/
def carryExpiry (i : Fin 512) (bk : Books) : Option (Accepted Books) :=
  match bk.deposits.get i with
  | some d =>
    if d.state = .carried ∧ d.carry = some 0 then
      some { next := bk.setDeposit i { d with carry := none, overdue := true }, sources := [.carryOverdue] }
    else none
  | none => none

/-! ## Purge (R51) and soft reset (R53) -/

/-- Every CLOSED record EMPTY and the close order emptied; the number of them (R51). -/
def purgeClosed (bk : Books) : Books × Nat :=
  let closed (d : Option Deposit) : Bool := d.any fun d => d.state == .closed
  ({ bk with deposits := bk.deposits.map fun d => if closed d then none else d, closeOrder := [] },
   bk.deposits.count closed)

/-- A record at a soft reset (R53). -/
def Deposit.softReset (d : Deposit) (window : Nat) : Deposit :=
  if d.state = .counting then d.returned
  else if d.state = .carried ∧ !d.overdue then { d with carry := some (window * 60) }
  else d

end Sys2Proof.Machine
end

