-- ==== Sys2Proof/Machine/LaneRules.lean ====
section
/-! DEFINITION. The Counting Unit's rules (chapter 6) over the store's records. The commands that apply them stand in
Machine/CountingUnit.lean. -/

namespace Sys2Proof.Machine
open Sys2Proof

/-- IDLE is 0, OPEN is 1 (R100). -/
def Lane.code (l : Lane) : Nat := if l.session.isSome then 1 else 0

def Books.setLane (bk : Books) (i : Fin 6) (l : Lane) : Books := { bk with lanes := bk.lanes.set i l }

/-- A lane frame accepted: the lane index, its state after the frame, and what the kind adds (R103; DEDUCED,
assumption 21). -/
def laneAccepted (i : Fin 6) (bk : Books) (more : List Byte) (sources : List Source) : Ruling Books :=
  .accept { next := bk, result := oneByte i.val ++ oneByte (bk.lanes.get i).code ++ more, sources := sources }

/-- A full idle timer under a bank (R105, R109). -/
def idleTimer (T : Tables) : Timer := ⟨T.timing.sessionIdle * 60, T.timing.sessionIdle * 60⟩

/-- COUNT_OPEN (R104, R105). -/
def countOpen (x : Ctx) (q : DepositStaff) (bk : Books) : Ruling Books :=
  match x.entry.role with
  | .counter i =>
    let l := bk.lanes.get i
    if l.session.isSome then .no .laneBusy bk
    else if !x.tab.staffPasses q.staff x.entry.domain (·.counter) then .reported .staffNotPermitted bk
    else match bk.claim q.deposit .awaitingCount .depositBusy .unknownDeposit with
      | .error e => .no e bk
      | .ok d =>
        laneAccepted i
          ((bk.setDeposit q.deposit
              { d with state := .counting, holder := some (.lane i), countingStaff := some q.staff }).setLane i
            { Lane.idle with session := some ⟨q.deposit, q.staff, idleTimer x.tab⟩ })
          (twoBytes q.deposit.val ++ oneByte d.kind.code ++ fourBytes d.number) []
  | _ => .no .kindNotPermitted bk

/-- The working copy a COUNT_DATA frame walks with (R107). -/
structure Working where
  counts    : Tab Nat 32
  suspects  : Tab Nat 32
  bundle    : List BundleEntry
  committed : Nat

/-- One entry's count added to its denomination (R108). -/
def Working.add (w : Working) (e : BundleEntry) : Working :=
  if e.kind = .suspect then { w with suspects := w.suspects.set e.denom (w.suspects.get e.denom + e.count) }
  else { w with counts := w.counts.set e.denom (w.counts.get e.denom + e.count) }

/-- A bundle committed (R108), with COUNT_LIMIT where a total would exceed 9,999,999 (R107). -/
def Working.commit (w : Working) : Except Reason Working :=
  let w' := w.bundle.foldl Working.add w
  if w'.counts.rows.any (fun n => decide (Config.maxPieces < n))
      || w'.suspects.rows.any (fun n => decide (Config.maxPieces < n)) then .error .countLimit
  else .ok { w' with bundle := [], committed := w.committed + 1 }

/-- The six checks of R107 on one record. -/
def Working.take (T : Tables) (w : Working) (r : CountRecord) : Except Reason Working :=
  match T.takeRecord r with
  | .error e => .error e
  | .ok entry =>
    let w' : Working := { w with bundle := w.bundle ++ [entry] }
    if Config.bundleEntries < w'.bundle.length then .error .bundleTooLong
    else if r.last then w'.commit else .ok w'

/-- The walk over a frame's records: the first that fails gives its reason and its place (R107). -/
def walkRecords (T : Tables) : Nat → Working → List CountRecord → Except (Reason × Nat) Working
  | _, w, [] => .ok w
  | place, w, r :: rs =>
    match w.take T r with
    | .error e => .error (e, place)
    | .ok w' => walkRecords T (place + 1) w' rs

/-- COUNT_DATA (R107 to R109). The number of bundles committed is 2 bytes (DEDUCED, assumption 38). -/
def countData (x : Ctx) (rs : List CountRecord) (bk : Books) : Ruling Books :=
  match x.entry.role with
  | .counter i =>
    let l := bk.lanes.get i
    match l.session with
    | none => .no .badState bk
    | some ss =>
      match walkRecords x.tab 1 ⟨l.counts, l.suspects, l.bundle, 0⟩ rs with
      | .error (e, place) => .refuse e place [] .nothing bk
      | .ok w =>
        laneAccepted i (bk.setLane i ⟨some { ss with idle := idleTimer x.tab }, w.counts, w.suspects, w.bundle⟩)
          (twoBytes rs.length ++ twoBytes w.committed ++ twoBytes w.bundle.length) []
  | _ => .no .kindNotPermitted bk

/-- The denominations with a non-zero committed count or committed suspect count (R110). -/
def Lane.used (l : Lane) : Nat :=
  ((List.finRange 32).filter fun d => l.counts.get d != 0 || l.suspects.get d != 0).length

/-- COUNT_RECOUNT (R110). The number of denominations is 2 bytes (DEDUCED, assumption 38). -/
def countRecount (x : Ctx) (bk : Books) : Ruling Books :=
  match x.entry.role with
  | .counter i =>
    let l := bk.lanes.get i
    match l.session with
    | none => .no .badState bk
    | some ss =>
      laneAccepted i (bk.setLane i { Lane.idle with session := some { ss with idle := idleTimer x.tab } })
        (twoBytes l.bundle.length ++ twoBytes l.used) []
  | _ => .no .kindNotPermitted bk

/-- The session abandoned: the deposit back to AWAITING_COUNT and the lane IDLE (R111, R101). -/
def Books.abandon (bk : Books) (i : Fin 6) (ss : Session) : Books :=
  (bk.changeDeposits [ss.deposit] Deposit.returned).setLane i Lane.idle

/-- COUNT_ABORT (R111). -/
def countAbort (x : Ctx) (bk : Books) : Ruling Books :=
  match x.entry.role with
  | .counter i =>
    match (bk.lanes.get i).session with
    | none => .no .badState bk
    | some ss => laneAccepted i (bk.abandon i ss) (twoBytes ss.deposit.val) []
  | _ => .no .kindNotPermitted bk

/-- The expiry of an idle timer that has run down (R112). -/
def idleExpiry (i : Fin 6) (bk : Books) : Option (Accepted Books) :=
  match (bk.lanes.get i).session with
  | some ss =>
    if ss.idle.remaining = 0 then some { next := bk.abandon i ss, sources := [.sessionExpired] } else none
  | none => none

/-- The record at a close: with its count results, CLOSED or DISCREPANT (R46, R115). -/
def Deposit.counted (d : Deposit) (r : CountResult) (tod : Nat) : Deposit :=
  let d := { d with result := some r }
  if r.clean then d.close .counted tod else { d with state := .discrepant, holder := none }

/-- COUNT_CLOSE (R114, R115). A lane whose deposit record is EMPTY, which R38 rules out, declares nothing
(DESIGN CHOICE, assumption 19). -/
def countClose (x : Ctx) (bk : Books) : Ruling Books :=
  match x.entry.role with
  | .counter i =>
    let l := bk.lanes.get i
    match l.session with
    | none => .no .badState bk
    | some ss =>
      let declared := match bk.deposits.get ss.deposit with
        | some d => d.declared
        | none => noAmounts
      if l.bundle ≠ [] then .no .openBundle bk
      else match x.tab.closeValue x.entry.domain declared l.counts l.suspects with
        | .error e => .no e bk
        | .ok v =>
          match bk.move (countCloseMove declared v.result.counted v.result.suspect) with
          | .error e => .no e bk
          | .ok bk' =>
            let bk' := (bk'.changeDeposits [ss.deposit] fun d => d.counted v.result x.clock.tod).setLane i Lane.idle
            let answer := twoBytes ss.deposit.val ++ oneByte (if v.result.clean then 0 else 1)
              ++ oneByte v.result.verdict.code ++ listBytes v.result.counted ++ listBytes v.result.suspect
              ++ amountBytes v.result.variance ++ amountBytes v.allowed ++ flagByte v.saturated
            if v.result.clean then laneAccepted i (bk'.joinCloseOrder [ss.deposit]) answer []
            else laneAccepted i bk' answer [.discrepantDeposit]
  | _ => .no .kindNotPermitted bk

/-- RELEASE (R119, R120): the answer carries no lane index. -/
def release (x : Ctx) (q : DepositStaff) (bk : Books) : Ruling Books :=
  if !x.tab.staffPasses q.staff x.entry.domain (·.supervisor) then .reported .staffNotPermitted bk
  else if (bk.deposits.get q.deposit).any (fun d => d.countingStaff == some q.staff) then .reported .sameStaff bk
  else match bk.claim q.deposit .discrepant .badState .unknownDeposit with
    | .error e => .no e bk
    | .ok d =>
      let d' := { d.close .released x.clock.tod with releasingStaff := some q.staff }
      .accept {
        next := (bk.setDeposit q.deposit d').joinCloseOrder [q.deposit]
        result := twoBytes q.deposit.val
          ++ (match d.result with
            | some r => oneByte r.verdict.code ++ amountBytes r.variance
            | none => []) }

end Sys2Proof.Machine
end

