-- ==== Sys2Proof/Machine/DockRules.lean ====
section
/-! DEFINITION. The Dock Unit's rules (chapter 7) over the store's records: consignments and handovers. The commands
that apply them stand in Machine/DockUnit.lean. -/

namespace Sys2Proof.Machine
open Sys2Proof

def Books.setConsign (bk : Books) (k : Fin 8) (c : Consignment) : Books := { bk with consigns := bk.consigns.set k c }
def Books.setDock (bk : Books) (d : Fin 2) (h : Handover) : Books := { bk with docks := bk.docks.set d h }

/-! ## Items -/

/-- The number of an item: its bag number, or the number of its deposit's record (R123). -/
def Books.itemNumber (bk : Books) : Item → Nat
  | .bag n _ _ => n
  | .deposit i => match bk.deposits.get i with
    | some d => d.number
    | none => 0

/-- The deposit items of a consignment. -/
def Consignment.depositItems (c : Consignment) : List (Fin 512) :=
  c.items.filterMap fun l => match l.item with
    | .deposit i => some i
    | .bag _ _ _ => none

/-- The bag items of a consignment. -/
def Consignment.bagItems (c : Consignment) : List (BagSource × Amounts) :=
  c.items.filterMap fun l => match l.item with
    | .bag _ src a => some (src, a)
    | .deposit _ => none

/-- The same items with every scanned flag clear (R137, R143). -/
def Consignment.cleared (c : Consignment) (st : ConsignState) : Consignment :=
  { c with state := st, items := c.items.map fun l => { l with scanned := false } }

/-! ## Building a consignment (section 7.2) -/

/-- CONSIGN_CREATE (R125). -/
def consignCreate (d : Fin 2) (bk : Books) : Except Reason (Books × List Byte) :=
  match bk.consigns.firstIx fun c => c.state == .free with
  | none => .error .consignmentFull
  | some k => .ok (bk.setConsign k ⟨.building, some d, []⟩, oneByte k.val)

/-- CONSIGN_LOAD (R126). -/
def consignLoad (T : Tables) (q : ConsignLoad) (bk : Books) : Except Reason (Books × List Byte) :=
  let c := bk.consigns.get q.consignment
  if c.state ≠ .building then .error .badState
  else if Config.consignItems ≤ c.items.length then .error .consignmentFull
  else if !T.currenciesEnabled q.list then .error .currencyDisabled
  else if bk.numberInUse q.bag then .error .duplicateNumber
  else match bk.move (loadMove q.consignment q.source (storedList q.list)) with
    | .error e => .error e
    | .ok bk' =>
      let items := c.items ++ [⟨.bag q.bag q.source (storedList q.list), false⟩]
      .ok (bk'.setConsign q.consignment { c with items := items },
        twoBytes items.length ++ listBytes (bk'.pos.loaded.get q.consignment))

/-- CONSIGN_ADD (R127). -/
def consignAdd (q : ConsignAdd) (bk : Books) : Except Reason (Books × List Byte) :=
  let c := bk.consigns.get q.consignment
  if c.state ≠ .building then .error .badState
  else if Config.consignItems ≤ c.items.length then .error .consignmentFull
  else match bk.claim q.deposit .awaitingCount .depositBusy .unknownDeposit with
    | .error e => .error e
    | .ok d =>
      let items := c.items ++ [⟨.deposit q.deposit, false⟩]
      .ok ((bk.setDeposit q.deposit { d with state := .consigned, holder := some (.consignment q.consignment) })
          |>.setConsign q.consignment { c with items := items },
        twoBytes items.length ++ fourBytes d.number)

/-- The item answers to the name (R128). -/
def ItemName.names : ItemName → Item → Bool
  | .bag n, .bag m _ _ => n == m
  | .deposit i, .deposit j => i == j
  | _, _ => false

/-- The consignment with one line taken out; emptied in READY it returns to BUILDING (R128). -/
def Consignment.without (c : Consignment) (l : ConsignLine) : Consignment :=
  let items := c.items.erase l
  { c with items := items, state := if items = [] then .building else c.state }

/-- CONSIGN_REMOVE (R128). -/
def consignRemove (q : ConsignRemove) (bk : Books) : Except Reason (Books × List Byte) :=
  let c := bk.consigns.get q.consignment
  if c.state ≠ .building ∧ c.state ≠ .ready then .error .badState
  else match c.items.find? fun l => q.item.names l.item with
    | none => .error (match q.item with | .bag _ => .unknownNumber | .deposit _ => .unknownDeposit)
    | some l =>
      let c' := c.without l
      let answer := twoBytes c'.items.length ++ oneByte c'.state.code
      match l.item with
      | .bag _ src a =>
        match bk.move (unloadMove q.consignment [(src, a)]) with
        | .error e => .error e
        | .ok bk' => .ok (bk'.setConsign q.consignment c', answer)
      | .deposit i => .ok ((bk.changeDeposits [i] Deposit.returned).setConsign q.consignment c', answer)

/-- CONSIGN_READY (R129). -/
def consignReady (k : Fin 8) (bk : Books) : Except Reason (Books × List Byte) :=
  let c := bk.consigns.get k
  if c.state ≠ .building ∨ c.items = [] then .error .badState
  else .ok (bk.setConsign k { c with state := .ready }, [])

/-- CONSIGN_CANCEL (R130). -/
def consignCancel (k : Fin 8) (bk : Books) : Except Reason (Books × List Byte) :=
  let c := bk.consigns.get k
  if c.state = .atDock then .error .consignmentAtDock
  else if c.state = .free then .error .badState
  else match bk.move (unloadMove k c.bagItems) with
    | .error e => .error e
    | .ok bk' =>
      .ok ((bk'.changeDeposits c.depositItems Deposit.returned).setConsign k Consignment.free,
        twoBytes c.bagItems.length ++ twoBytes c.depositItems.length)

/-! ## The handover record -/

/-- The record as it enters IDLE, LOCKOUT or LOCKED: every field but the lockout count removed (R131). -/
def Handover.left (h : Handover) (st : DockState) : Handover := { Handover.powerOn with state := st, lockouts := h.lockouts }

/-- A dock in LOCKOUT or LOCKED refuses every dock frame (R132). -/
def DockState.shut : DockState → Bool
  | .lockout => true
  | .locked => true
  | _ => false

/-- The DOCK0ACTIVE and DOCK1ACTIVE flags' states (R145). -/
def DockState.active : DockState → Bool
  | .idle => false
  | .lockout => false
  | .locked => false
  | _ => true

/-- The record with the accepted frame's kind as its last kind (R132). -/
def Handover.heard (h : Handover) (kind : Byte) : Handover :=
  { h with visit := h.visit.map fun v => { v with lastKind := kind } }

/-- A dock frame accepted: the handover state after it, then what the kind adds (R132; DEDUCED, assumption 21). -/
def dockAccepted (x : Ctx) (d : Fin 2) (h : Handover) (bk : Books) (more : List Byte) (sources : List Source) :
    Ruling Books :=
  .accept { next := bk.setDock d (h.heard x.kind), result := oneByte h.state.code ++ more, sources := sources }

/-- A dock frame refused with a dock fault in the same event (R132). -/
def dockFaulted (d : Fin 2) (r : Reason) (bk : Books) : Ruling Books := .refuse r 0 [] (.dockFault d) bk

/-- Every consignment at the dock back to READY, its items kept and its scanned flags cleared (R143, step 1). -/
def Books.abort (bk : Books) (d : Fin 2) : Books :=
  { bk with consigns := bk.consigns.mapIx fun k c =>
      if (bk.docks.get d).atDock.contains k then c.cleared .ready else c }

/-- Steps 1 to 4 of a dock fault, under the timing of the bank it reads (R143). -/
def dockFaultRecords (timing : Timing) (d : Fin 2) (bk : Books) : Books :=
  let h := bk.docks.get d
  let count := min (h.lockouts + 1) Config.lockoutHold
  let h' : Handover :=
    if timing.lockoutLimit ≤ count then { h.left .locked with lockouts := count }
    else { h.left .lockout with lockouts := count, lockout := some timing.lockout }
  (bk.abort d).setDock d h'

/-! ## Arrival -/

/-- The checks on a courier who starts a qualification, in R133's order. -/
def Ctx.arrivalRefusal (x : Ctx) (d : Fin 2) (courier : Nat) : Option Reason :=
  if !x.tab.courierValid courier then some .courierUnknown
  else if x.clock.unset then some .timeUnset
  else if !x.tab.inWindow d x.clock.tod then some .outsideWindow
  else none

/-- The dock as a courier starts a qualification (R133). -/
def Handover.startQualifying (h : Handover) (x : Ctx) (courier : Nat) : Handover :=
  { h with
    state := .qualifying
    visit := some ⟨x.src, x.port, courier, x.kind⟩
    qualify := some ⟨x.clock.tod, x.tab.timing.arrivalQual, x.tab.timing.beaconGap⟩ }

/-- The qualification with its gap timer restarted (R134, R141). -/
def Handover.gapRestarted (h : Handover) (gap : Nat) : Handover :=
  { h with qualify := h.qualify.map fun q => { q with gap := gap } }

/-- The courier of the handover is the one given. -/
def Handover.courierIs (h : Handover) (courier : Nat) : Bool := h.visit.any fun v => v.courier == courier

/-- ARRIVE_BEACON (R133, R134). -/
def arriveBeacon (x : Ctx) (courier : Nat) (bk : Books) : Ruling Books :=
  match x.entry.role with
  | .dock d =>
    let h := bk.docks.get d
    let start : Ruling Books :=
      match x.arrivalRefusal d courier with
      | some r => dockFaulted d r bk
      | none => dockAccepted x d (h.startQualifying x courier) bk [] []
    if h.state.shut then .no .dockLocked bk
    else if h.state = .idle then start
    else if h.state = .qualifying then
      if h.courierIs courier then dockAccepted x d (h.gapRestarted x.tab.timing.beaconGap) bk [] [] else start
    else dockAccepted x d h bk [] []
  | _ => .no .kindNotPermitted bk

/-- What the expiry of an arrival qualification that has run down comes to, under the ACTIVE bank (R134): the courier is
no longer valid, or the dock goes to CUSTODY or ARRIVED. -/
inductive ArrivalEnd where
  | fails
  | completes (a : Accepted Books)

/-- The expiry of a qualification timer in QUALIFYING (R134). The gap timer is still running or falls together with it:
`Qualification.tick` lets no qualification timer run down after its gap timer. -/
def arrivalExpiry (T : Tables) (d : Fin 2) (bk : Books) : Option ArrivalEnd :=
  let h := bk.docks.get d
  match h.state, h.qualify with
  | .qualifying, some ⟨_, 0, _⟩ =>
    if h.visit.any fun v => T.courierValid v.courier then
      let st : DockState := match T.dockModes.get d with
        | .auto => .custody
        | .manual => .arrived
      some (.completes {
        next := bk.setDock d { h with
          state := st, qualify := none, holders := [], deliveries := [], limit := some (T.timing.handoverLimit * 60) }
        sources := [.arrival] })
    else some .fails
  | _, _ => none

/-- The expiry of a beacon gap in QUALIFYING (R134). -/
def arrivalGap (d : Fin 2) (bk : Books) : Option (Accepted Books) :=
  let h := bk.docks.get d
  match h.state, h.qualify with
  | .qualifying, some ⟨_, _, 0⟩ => some { next := bk.setDock d (h.left .idle) }
  | _, _ => none

/-- OPEN_HANDOVER (R135). -/
def openHandover (d : Fin 2) (bk : Books) : Except Reason (Books × List Byte) :=
  let h := bk.docks.get d
  if h.state ≠ .arrived then .error .badState
  else .ok (bk.setDock d { h with state := .custody, holders := [], deliveries := [] },
    match h.visit with
    | some v => twoBytes v.courier
    | none => [])

/-! ## Custody pairing -/

/-- The READY consignments of a dock, in ascending index order (R137). -/
def Books.readyFor (bk : Books) (d : Fin 2) : List (Fin 8) :=
  (List.finRange 8).filter fun k =>
    (bk.consigns.get k).state == .ready && (bk.consigns.get k).dock == some d

/-- The number of items of the consignments given that pass. -/
def Books.countItems (bk : Books) (ks : List (Fin 8)) (p : ConsignLine → Bool) : Nat :=
  (ks.map fun k => ((bk.consigns.get k).items.filter p).length).sum

/-- The pairing completed by a second key holder (R137). The number of consignments is 2 bytes (DEDUCED, assumption 38). -/
def pair (x : Ctx) (d : Fin 2) (staff : Nat) (bk : Books) : Ruling Books :=
  let h := bk.docks.get d
  let ks := bk.readyFor d
  let bk' : Books := { bk with consigns := bk.consigns.mapIx fun k c => if ks.contains k then c.cleared .atDock else c }
  dockAccepted x d
    { h with state := .exchange, holders := h.holders ++ [staff], pairing := none, atDock := ks } bk'
    (twoBytes ks.length ++ twoBytes (bk'.countItems ks fun _ => true)) []

/-- CUSTODY_PRESENT (R136). -/
def custodyPresent (x : Ctx) (staff : Nat) (bk : Books) : Ruling Books :=
  match x.entry.role with
  | .dock d =>
    let h := bk.docks.get d
    if h.state.shut then .no .dockLocked bk
    else if h.state ≠ .custody then .no .badState bk
    else if !x.tab.staffPasses staff x.entry.domain (·.keyHolder) then .reported .staffNotPermitted bk
    else if h.holders.contains staff then dockAccepted x d h bk [] []
    else if h.holders = [] then
      dockAccepted x d { h with holders := [staff], pairing := some x.tab.timing.pairing } bk [] []
    else pair x d staff bk
  | _ => .no .kindNotPermitted bk

/-- A pairing timer of a dock in CUSTODY has run down with one key holder listed (R136). -/
def pairingDue (d : Fin 2) (bk : Books) : Bool :=
  let h := bk.docks.get d
  h.state == .custody && h.pairing == some 0 && h.holders.length == 1

/-! ## Exchange -/

/-- The item of a number among the consignments at the dock, with its consignment (R138). -/
def Books.findItem (bk : Books) (ks : List (Fin 8)) (n : Nat) : Option (Fin 8 × ConsignLine) :=
  ks.findSome? fun k =>
    ((bk.consigns.get k).items.find? fun l => bk.itemNumber l.item == n).map fun l => (k, l)

/-- The consignment with one line's scanned flag set. -/
def Consignment.scan (c : Consignment) (l : ConsignLine) : Consignment :=
  { c with items := c.items.map fun m => if m = l then { m with scanned := true } else m }

/-- ITEM_OUT (R138). -/
def itemOut (x : Ctx) (n : Nat) (bk : Books) : Ruling Books :=
  match x.entry.role with
  | .dock d =>
    let h := bk.docks.get d
    if h.state.shut then .no .dockLocked bk
    else if h.state ≠ .exchange then .no .badState bk
    else match bk.findItem h.atDock n with
      | none => dockFaulted d .unknownNumber bk
      | some (k, l) =>
        if l.scanned then .no .duplicateNumber bk
        else
          let bk' := bk.setConsign k ((bk.consigns.get k).scan l)
          dockAccepted x d h bk' (oneByte k.val ++ twoBytes (bk'.countItems h.atDock fun l => !l.scanned)) []
  | _ => .no .kindNotPermitted bk

/-- ITEM_IN (R139). -/
def itemIn (x : Ctx) (q : Container) (bk : Books) : Ruling Books :=
  match x.entry.role with
  | .dock d =>
    let h := bk.docks.get d
    if h.state.shut then .no .dockLocked bk
    else if h.state ≠ .exchange then .no .badState bk
    else if Config.handoverDeliveries ≤ h.deliveries.length then .no .badState bk
    else if !x.tab.currenciesEnabled q.list then .no .currencyDisabled bk
    else match bk.create x.tab x.clock.tod ⟨.delivery, q.number, .dock d, q.list⟩ (deliveryMove (storedList q.list)) with
      | .error e => .no e bk
      | .ok (bk', i) => dockAccepted x d { h with deliveries := h.deliveries ++ [i] } bk' (twoBytes i.val) []
  | _ => .no .kindNotPermitted bk

/-- The declared list of a record, nothing where it is EMPTY. -/
def Books.declaredOf (bk : Books) (i : Fin 512) : Amounts :=
  match bk.deposits.get i with
  | some d => d.declared
  | none => noAmounts

/-- HANDOVER_END (R140): the refusal INCOMPLETE carries the number of items still unscanned; the numbers of consignments and of
deliveries are 2 bytes (DEDUCED, assumption 38). -/
def handoverEnd (x : Ctx) (bk : Books) : Ruling Books :=
  match x.entry.role with
  | .dock d =>
    let h := bk.docks.get d
    let unscanned := bk.countItems h.atDock fun l => !l.scanned
    let items := (h.atDock.map fun k => (bk.consigns.get k).depositItems).flatten
    if h.state.shut then .no .dockLocked bk
    else if h.state ≠ .exchange then .no .badState bk
    else if unscanned ≠ 0 then .refuse .incomplete 0 (twoBytes unscanned) .nothing bk
    else match bk.move (departureMove bk.pos h.atDock (items.map bk.declaredOf)) with
      | .error e => .no e bk
      | .ok bk' =>
        let bk' := (bk'.changeDeposits items fun r => r.close .departed x.clock.tod).joinCloseOrder items
        let bk' : Books :=
          { bk' with consigns := bk'.consigns.mapIx fun k c => if h.atDock.contains k then Consignment.free else c }
        dockAccepted x d { h with state := .released, atDock := [], lockouts := 0 } bk'
          (twoBytes h.atDock.length ++ twoBytes items.length ++ twoBytes h.deliveries.length) [.released]
  | _ => .no .kindNotPermitted bk

/-! ## Departure, the handover timer, lockout -/

/-- DEPART_BEACON (R141). -/
def departBeacon (x : Ctx) (courier : Nat) (bk : Books) : Ruling Books :=
  match x.entry.role with
  | .dock d =>
    let h := bk.docks.get d
    if h.state.shut then .no .dockLocked bk
    else if !h.courierIs courier then dockAccepted x d h bk [] []
    else if h.state = .released then
      dockAccepted x d
        { h with
          state := .departing
          qualify := some ⟨x.clock.tod, x.tab.timing.departureQual, x.tab.timing.beaconGap⟩ } bk [] []
    else if h.state = .departing then dockAccepted x d (h.gapRestarted x.tab.timing.beaconGap) bk [] []
    else dockAccepted x d h bk [] []
  | _ => .no .kindNotPermitted bk

/-- The expiry of a departure qualification that has run down confirms the departure; as for arrival, its gap timer is
still running or falls together with it (R141). -/
def departureExpiry (d : Fin 2) (bk : Books) : Option (Accepted Books) :=
  let h := bk.docks.get d
  match h.state, h.qualify with
  | .departing, some ⟨_, 0, _⟩ => some { next := bk.setDock d (h.left .idle) }
  | _, _ => none

/-- The expiry of a beacon gap in DEPARTING (R141). -/
def departureGap (d : Fin 2) (bk : Books) : Option (Accepted Books) :=
  let h := bk.docks.get d
  match h.state, h.qualify with
  | .departing, some ⟨_, _, 0⟩ => some { next := bk.setDock d { h with state := .released, qualify := none } }
  | _, _ => none

/-- What the expiry of a handover timer that has run down comes to (R142). -/
inductive LimitEnd where
  | faults
  | ends (a : Accepted Books)

def limitExpiry (d : Fin 2) (bk : Books) : Option LimitEnd :=
  let h := bk.docks.get d
  if h.limit ≠ some 0 then none
  else match h.state with
    | .arrived | .custody | .exchange => some .faults
    | .released | .departing =>
      some (.ends { next := bk.setDock d (h.left .idle), sources := [.departureUnconfirmed] })
    | _ => none

/-- The expiry of a lockout timer that has run down (R144). -/
def lockoutExpiry (d : Fin 2) (bk : Books) : Option (Accepted Books) :=
  let h := bk.docks.get d
  if h.state = .lockout ∧ h.lockout = some 0 then some { next := bk.setDock d (h.left .idle) } else none

/-- DOCK_UNLOCK (R144). -/
def dockUnlock (d : Fin 2) (bk : Books) : Except Reason (Books × List Byte) :=
  let h := bk.docks.get d
  if !h.state.shut then .error .badState
  else .ok (bk.setDock d { h.left .idle with lockouts := 0 }, [])

/-- One dock at a soft reset, under the ACTIVE bank (R149). -/
def dockSoftReset (T : Tables) (d : Fin 2) (bk : Books) : Books :=
  let h := bk.docks.get d
  match h.state with
  | .arrived | .custody | .exchange => (bk.abort d).setDock d (h.left .idle)
  | .qualifying | .released | .departing => bk.setDock d (h.left .idle)
  | .lockout => bk.setDock d { h with lockout := some T.timing.lockout }
  | .idle | .locked => bk

end Sys2Proof.Machine
end

