-- ==== Sys2Proof/Machine/SafeRules.lean ====
section
/-! DEFINITION. The Safe Unit's rules (chapter 5) over the store's records. The commands that apply them stand in
Machine/SafeUnit.lean. -/

namespace Sys2Proof.Machine
open Sys2Proof

/-! ## The safe record -/

def BagSide.other : BagSide → BagSide
  | .a => .b
  | .b => .a

def Safe.bag (f : Safe) : BagSide → Bag
  | .a => f.bagA
  | .b => f.bagB

def Safe.setBag (f : Safe) (side : BagSide) (g : Bag) : Safe :=
  match side with
  | .a => { f with bagA := g }
  | .b => { f with bagB := g }

/-- The position that takes drops, if any (R78: at most one is ACTIVE). -/
def Safe.activeSide (f : Safe) : Option BagSide :=
  if f.bagA.state = .active then some .a else if f.bagB.state = .active then some .b else none

/-- The collection-ready flag: some position is FULL (R78). -/
def Safe.collectionReady (f : Safe) : Bool := f.bagA.state == .full || f.bagB.state == .full

/-- A position that holds no bag (R78). -/
def Bag.none : Bag := ⟨.empty, [], 0⟩

/-- An ACTIVE position with an empty bag. -/
def Bag.fresh : Bag := ⟨.active, [], 0⟩

def Books.setSafe (bk : Books) (i : Fin 16) (f : Safe) : Books := { bk with safes := bk.safes.set i f }

/-- What every accepted safe frame's answer ends with: the safe's state, each position's state and pouch count, and the
collection-ready flag (R80; the order is DEDUCED, assumption 21, and so are pouch counts of 2 bytes, assumption 38). -/
def Safe.summary (f : Safe) : List Byte :=
  oneByte f.state.code ++ oneByte f.bagA.state.code ++ twoBytes f.bagA.pouches.length
    ++ oneByte f.bagB.state.code ++ twoBytes f.bagB.pouches.length ++ flagByte f.collectionReady

/-- A safe frame accepted: the result of its kind, then the safe after the frame (R80). -/
def safeAccepted (i : Fin 16) (bk : Books) (result : List Byte) (sources : List Source) : Ruling Books :=
  .accept { next := bk, result := result ++ (bk.safes.get i).summary, sources := sources }

/-! ## Drops -/

/-- The live record that carries the number is CARRIED (R44, R81). -/
def Books.carriedPouch (bk : Books) (n : Nat) : Option (Fin 512) :=
  match bk.findLive n with
  | some i => if (bk.deposits.get i).any fun d => d.state == .carried then some i else none
  | none => none

/-- DROP_REQUEST (R81): the grant is its ACCEPT answer. A RUNNING safe without an ACTIVE position, which R78 rules out,
is answered as a STOPPED one (DESIGN CHOICE, assumption 19). -/
def dropRequest (x : Ctx) (n : Nat) (bk : Books) : Ruling Books :=
  match x.entry.role with
  | .safe i =>
    let f := bk.safes.get i
    match f.state, f.activeSide with
    | .running, some side =>
      if f.reservation.isSome then .no .safeBusy bk
      else match bk.carriedPouch n with
        | none => .no .unknownPouch bk
        | some d =>
          if Config.bagPouches < (f.bag side).pouches.length + 1 then .no .safeFull bk
          else
            let window := x.tab.timing.dropGrant
            safeAccepted i (bk.setSafe i { f with reservation := some ⟨n, d, side, window⟩ })
              (oneByte i.val ++ oneByte side.code ++ twoBytes window ++ twoBytes d.val) []
    | _, _ => .no .safeStopped bk
  | _ => .no .kindNotPermitted bk

/-- The swap test fires for a bag: pouch count over the threshold or bag value over the limit (R15, R86). -/
def testFires (e : SafeEntry) (g : Bag) : Bool :=
  decide (e.threshold < g.pouches.length) || decide ((e.valueLimit : Int) < g.value)

/-- The swap test after a drop into `side` under the safe's entry: the safe after it and the sources set (R86 to R88). -/
def swapTest (e : SafeEntry) (side : BagSide) (f : Safe) : Safe × List Source :=
  let g := f.bag side
  let full : Bag := { g with state := .full }
  if testFires e g then
    if (f.bag side.other).state = .full then
      if e.policy = .overfill ∧ g.pouches.length < Config.bagPouches then
        ({ f with overfill := true }, if f.overfill then [] else [.overfill])
      else ({ f.setBag side full with state := .stopped }, [.bagFull, .safeStopped])
    else
      ({ (f.setBag side full).setBag side.other { f.bag side.other with state := .active } with overfill := false },
        [.bagFull])
  else (f, [])

/-- The record a drop claims: the one at the reservation's index, live and carrying its number, and CARRIED (R44, R83). -/
def Books.claimDrop (bk : Books) (r : Reservation) : Except Reason Deposit :=
  match bk.deposits.get r.deposit with
  | none => .error .unknownPouch
  | some d =>
    if !d.live || d.number != r.number then .error .unknownPouch
    else if d.state = .carried then .ok d else .error .depositBusy

/-- The bag with one more pouch, its value saturated at AMAX (R83, R15). -/
def Bag.append (g : Bag) (d : Fin 512) (base : Int) : Bag :=
  { g with pouches := g.pouches ++ [d], value := min (g.value + base) Config.amax }

/-- DROP_DONE (R83, R84). The position's pouch count is 2 bytes (DEDUCED, assumption 38). Refused with NOT_GRANTED it is not
forwarded (DESIGN CHOICE, assumption 43). -/
def dropDone (x : Ctx) (n : Nat) (bk : Books) : Ruling Books :=
  match x.entry.role with
  | .safe i =>
    let f := bk.safes.get i
    match f.reservation with
    | none => .no .notGranted bk
    | some r =>
      if r.number ≠ n then .no .notGranted bk
      else
        let ended : Safe := { f with reservation := none }
        match bk.claimDrop r with
        | .error e => .refuse e 0 [] .nothing (bk.setSafe i ended)
        | .ok d =>
          let g := (ended.bag r.side).append r.deposit d.base
          let (f', sources) := swapTest (x.tab.safes.get i) r.side (ended.setBag r.side g)
          let bk' := (bk.setDeposit r.deposit
            { d with state := .inSafe, holder := some (.safe i r.side), carry := none }).setSafe i f'
          safeAccepted i bk' (oneByte r.side.code ++ twoBytes g.pouches.length ++ amountBytes g.value) sources
  | _ => .no .kindNotPermitted bk

/-- DROP_CANCEL (R85). -/
def dropCancel (x : Ctx) (n : Nat) (bk : Books) : Ruling Books :=
  match x.entry.role with
  | .safe i =>
    let f := bk.safes.get i
    match f.reservation with
    | some r =>
      if r.number = n then safeAccepted i (bk.setSafe i { f with reservation := none }) [] []
      else .no .notGranted bk
    | none => .no .notGranted bk
  | _ => .no .kindNotPermitted bk

/-- The expiry of a grant timer that has run down ends the reservation (R85). -/
def grantExpiry (i : Fin 16) (bk : Books) : Option (Accepted Books) :=
  let f := bk.safes.get i
  match f.reservation with
  | some r => if r.grant = 0 then some { next := bk.setSafe i { f with reservation := none } } else none
  | none => none

/-! ## Bag out, bag in, pouch in -/

/-- The staff check of the Safe Unit: no flag is needed (R89). -/
def Ctx.safeStaff (x : Ctx) (staff : Nat) : Bool := x.tab.staffPasses staff x.entry.domain fun _ => true

/-- The safe once the bag at `side` is taken out (R91). -/
def Safe.bagTaken (f : Safe) (side : BagSide) : Safe :=
  let f := f.setBag side Bag.none
  if f.activeSide.isSome then f else { f.setBag side Bag.fresh with state := .running, overfill := false }

/-- BAG_OUT (R90, R91). The number of pouches is 2 bytes (DEDUCED, assumption 38). -/
def bagOut (x : Ctx) (q : BagOut) (bk : Books) : Ruling Books :=
  match x.entry.role with
  | .safe i =>
    let f := bk.safes.get i
    let g := f.bag q.side
    if !x.safeStaff q.staff then .reported .staffNotPermitted bk
    else if g.state = .empty ∨ g.pouches = [] ∨ f.reservation.any (fun r => r.side == q.side) then .no .badState bk
    else match bk.transfers.firstIx fun t => t.isNone with
      | none => .no .transferFull bk
      | some t =>
        if bk.transfers.rows.any fun t => t.any fun t => t.bag == q.bag then .no .duplicateNumber bk
        else
          let window := x.tab.timing.carryTransfer * 60
          let entry : Transfer :=
            { bag := q.bag, safe := i, side := q.side, deposits := g.pouches, value := g.value, staff := q.staff
              timeOut := x.clock.tod, timer := some ⟨window, window⟩, late := false }
          let bk' := (bk.changeDeposits g.pouches fun d =>
            { d with state := .inTransfer, holder := some (.transfer t) }).setSafe i (f.bagTaken q.side)
          safeAccepted i { bk' with transfers := bk'.transfers.set t (some entry) }
            (oneByte t.val ++ twoBytes g.pouches.length ++ amountBytes g.value) []
  | _ => .no .kindNotPermitted bk

/-- The transfer entry in use that carries a bag number. -/
def Books.findTransfer (bk : Books) (n : Nat) : Option (Fin 32 × Transfer) :=
  match bk.transfers.firstIx fun t => t.any fun t => t.bag == n with
  | some i => (bk.transfers.get i).map fun t => (i, t)
  | none => none

/-- BAG_IN (R95): the safe of the answer is the transfer's (R80; the layout is DEDUCED, assumption 21). -/
def bagIn (x : Ctx) (q : Received) (bk : Books) : Ruling Books :=
  if !x.safeStaff q.staff then .reported .staffNotPermitted bk
  else match bk.findTransfer q.number with
    | none => .reported .unknownNumber bk
    | some (i, t) =>
      let bk' := bk.changeDeposits t.deposits fun d => { d with state := .awaitingCount, holder := none }
      .accept {
        next := { bk' with transfers := bk'.transfers.set i none }
        result := oneByte i.val ++ oneByte t.safe.val ++ oneByte t.side.code ++ twoBytes t.deposits.length
          ++ amountBytes t.value ++ flagByte t.late ++ maybeBytes Safe.summary (some (bk.safes.get t.safe)) }

/-- POUCH_IN (R96): no safe is concerned (R80). -/
def pouchIn (x : Ctx) (q : Received) (bk : Books) : Ruling Books :=
  if !x.safeStaff q.staff then .reported .staffNotPermitted bk
  else match bk.findLive q.number with
    | none => .no .unknownPouch bk
    | some i =>
      match bk.claim i .carried .depositBusy .unknownPouch with
      | .error e => .no e bk
      | .ok d =>
        .accept {
          next := bk.setDeposit i { d with state := .awaitingCount, holder := none, carry := none }
          result := twoBytes i.val ++ flagByte d.overdue ++ maybeBytes Safe.summary none }

/-- The expiry of a transfer timer that has run down (R94). -/
def transferExpiry (i : Fin 32) (bk : Books) : Option (Accepted Books) :=
  match bk.transfers.get i with
  | some t =>
    match t.timer with
    | some ⟨0, _⟩ =>
      some {
        next := { bk with transfers := bk.transfers.set i (some { t with timer := none, late := true }) }
        sources := [.transferLate] }
    | _ => none
  | none => none

/-! ## Soft reset (R99) -/

def Safe.softReset (f : Safe) : Safe := { f with reservation := none }

def Transfer.softReset (t : Transfer) (window : Nat) : Transfer :=
  if t.late then t else { t with timer := some ⟨window * 60, window * 60⟩ }

end Sys2Proof.Machine
end

