-- ==== Sys2Proof/Machine/TillRules.lean ====
section
/-! DEFINITION. The Till Book's rules (chapter 4) over the store's records. The commands that apply them stand in
Machine/TillBook.lean. -/

namespace Sys2Proof.Machine
open Sys2Proof

/-- OPEN, PICKUP_DUE and PICKUP_OVERDUE: the states in which a till trades (R62 to R66). -/
def TillState.trades : TillState → Bool
  | .opened => true
  | .pickupDue => true
  | .pickupOverdue => true
  | .closed => false
  | .floatTransit => false

def Books.setTill (bk : Books) (t : Fin 160) (r : Till) : Books := { bk with tills := bk.tills.set t r }

/-- What the drawer limit check comes to: the records, base(drawer), and the payload of a PICKUP_CALL (R68, R69). -/
structure Checked where
  books : Books
  base  : Int
  call  : Option (List Byte)

/-- The payload of a PICKUP_CALL (R69, section 8.6). -/
def pickupCall (t : Fin 160) (base : Int) (cls : TillClass) : List Byte :=
  oneByte t.val ++ amountBytes base ++ amountBytes cls.limit ++ twoBytes (cls.window * 60)

/-- The drawer limit check of a till under a class and a bank's rates (R14, R68). -/
def limitCheck (T : Tables) (t : Fin 160) (cls : Fin 8) (bk : Books) : Checked :=
  let base := (T.base (bk.pos.drawer.get t)).1
  let c := T.tillClasses.get cls
  let r := bk.tills.get t
  if (c.limit : Int) < base then
    if r.state = .opened then
      ⟨bk.setTill t { r with state := .pickupDue, timer := some ⟨c.window * 60, c.window * 60⟩ }, base,
        some (pickupCall t base c)⟩
    else ⟨bk, base, none⟩
  else if r.state.trades then ⟨bk.setTill t { r with state := .opened, timer := none }, base, none⟩
  else ⟨bk, base, none⟩

/-- The answer every till frame's acceptance carries: the till's state and the drawer's base equivalent, then what the
kind adds (R57; DEDUCED, assumption 21). -/
def tillAnswer (bk : Books) (t : Fin 160) (base : Int) (more : List Byte) : List Byte :=
  oneByte (bk.tills.get t).state.code ++ amountBytes base ++ more

/-- A till frame accepted, with the limit check run (R57, R68). -/
def tillChecked (x : Ctx) (t : Fin 160) (cls : Fin 8) (bk : Books) (more : List Byte) : Ruling Books :=
  let k := limitCheck x.tab t cls bk
  .accept { next := k.books, result := tillAnswer k.books t k.base more, call := k.call }

/-- The till record with its last movement time written (R54). -/
def Till.moved (r : Till) (tod : Nat) : Till := { r with lastMove := some tod }

/-- TILL_OPEN (R60). -/
def tillOpen (x : Ctx) (g : DeclaredList) (bk : Books) : Ruling Books :=
  match x.entry.role with
  | .till t cls =>
    let r := bk.tills.get t
    if r.state = .closed then .no .noFloat bk
    else if r.state ≠ .floatTransit then .no .badState bk
    else if !x.tab.currenciesEnabled g then .no .currencyDisabled bk
    else match bk.move (floatConfirmMove bk.pos t (storedList g)) with
      | .error e => .no e bk
      | .ok bk' =>
        tillChecked x t cls (bk'.setTill t { r with state := .opened, lastMove := some x.clock.tod })
          (listBytes (subLists (storedList g) (bk.pos.transit.get t)))
  | _ => .no .kindNotPermitted bk

/-- TILL_TENDER (R62, R63). -/
def tillTender (x : Ctx) (f : Tender) (bk : Books) : Ruling Books :=
  match x.entry.role with
  | .till t cls =>
    let r := bk.tills.get t
    if !r.state.trades then .no .badState bk
    else if r.state = .pickupOverdue ∧ (x.tab.tillClasses.get cls).action = .refuseCash ∧ 0 < f.amount then
      .no .drawerOverdue bk
    else if !x.tab.enabled f.currency then .no .currencyDisabled bk
    else match bk.move (tenderMove t f.currency f.amount f.change) with
      | .error e => .no e bk
      | .ok bk' => tillChecked x t cls (bk'.setTill t (r.moved x.clock.tod)) []
  | _ => .no .kindNotPermitted bk

/-- TILL_PAIDOUT (R64). -/
def tillPaidout (x : Ctx) (f : PaidOut) (bk : Books) : Ruling Books :=
  match x.entry.role with
  | .till t cls =>
    let r := bk.tills.get t
    if !r.state.trades then .no .badState bk
    else if !x.tab.enabled f.currency then .no .currencyDisabled bk
    else match bk.move (paidOutMove t f.currency f.amount) with
      | .error e => .no e bk
      | .ok bk' => tillChecked x t cls (bk'.setTill t (r.moved x.clock.tod)) []
  | _ => .no .kindNotPermitted bk

/-- TILL_PICKUP (R65); the pickup count is held at 65,535 (R54). Repeated once its till is CLOSED it is refused with BAD_STATE
(DESIGN CHOICE, assumption 37). -/
def tillPickup (x : Ctx) (f : Container) (bk : Books) : Ruling Books :=
  match x.entry.role with
  | .till t cls =>
    let r := bk.tills.get t
    if !r.state.trades then .no .badState bk
    else if !x.tab.currenciesEnabled f.list then .no .currencyDisabled bk
    else match bk.create x.tab x.clock.tod ⟨.pickup, f.number, .till t, f.list⟩ (pickupMove t (storedList f.list)) with
      | .error e => .no e bk
      | .ok (bk', i) =>
        tillChecked x t cls
          (bk'.setTill t { r with pickups := min (r.pickups + 1) Config.countHold, lastMove := some x.clock.tod })
          (twoBytes i.val)
  | _ => .no .kindNotPermitted bk

/-- TILL_CLOSE (R66): no limit check runs, and the answer carries a base equivalent of 0 and the close residual. Repeated at
the till it has closed it is refused with BAD_STATE, as R57 and R66 say of a CLOSED till, where R67 speaks of
DUPLICATE_NUMBER (DESIGN CHOICE, assumption 37). -/
def tillClose (x : Ctx) (f : Container) (bk : Books) : Ruling Books :=
  match x.entry.role with
  | .till t _ =>
    let r := bk.tills.get t
    if !r.state.trades then .no .badState bk
    else if !x.tab.currenciesEnabled f.list then .no .currencyDisabled bk
    else match bk.create x.tab x.clock.tod ⟨.close, f.number, .till t, f.list⟩
        (closeMove bk.pos t (storedList f.list)) with
      | .error e => .no e bk
      | .ok (bk', i) =>
        let bk'' := bk'.setTill t { r with
          state := .closed, timer := none, closeCalled := false, floatIssued := none, lastMove := some x.clock.tod }
        .accept {
          next := bk''
          result := tillAnswer bk'' t 0
            (twoBytes i.val ++ listBytes (subLists (bk.pos.drawer.get t) (storedList f.list))) }
  | _ => .no .kindNotPermitted bk

/-- The expiry of a pickup timer that has run down (R70). -/
def pickupExpiry (t : Fin 160) (bk : Books) : Option (Accepted Books) :=
  let r := bk.tills.get t
  match r.timer with
  | some ⟨0, _⟩ =>
    if r.state = .pickupDue then
      some { next := bk.setTill t { r with state := .pickupOverdue, timer := none }, sources := [.pickupOverdue] }
    else none
  | _ => none

/-- FLOAT_ISSUE (R58), with the result it replies. -/
def floatIssue (T : Tables) (tod : Nat) (f : FloatIssue) (bk : Books) : Except Reason (Books × List Byte) :=
  let r := bk.tills.get f.till
  if r.state ≠ .closed then .error .badState
  else if !T.currenciesEnabled f.list then .error .currencyDisabled
  else match bk.move (floatIssueMove f.till (storedList f.list)) with
    | .error e => .error e
    | .ok bk' =>
      .ok (bk'.setTill f.till { r with
          state := .floatTransit, floatIssued := some (storedList f.list), pickups := 0, lastMove := some tod },
        oneByte f.till.val ++ listBytes (bk'.pos.transit.get f.till))

/-- FLOAT_RECALL (R59), with the amounts returned. -/
def floatRecall (tod : Nat) (t : Fin 160) (bk : Books) : Except Reason (Books × List Byte) :=
  let r := bk.tills.get t
  if r.state ≠ .floatTransit then .error .badState
  else match bk.move (floatRecallMove bk.pos t) with
    | .error e => .error e
    | .ok bk' =>
      .ok (bk'.setTill t { r with state := .closed, floatIssued := none, lastMove := some tod },
        listBytes (bk.pos.transit.get t))

/-- A Station entry of role TILL names the till and passes the masks (R74). -/
def CloseCall.names (f : CloseCall) (e : Station) (t : Fin 160) : Bool :=
  match e.role with
  | .till u cls =>
    u == t && (match f.classes with | some m => m.getLsbD cls.val | none => true)
      && (match f.segments with | some m => m.getLsbD e.segment.val | none => true)
  | _ => false

/-- The addresses whose Station entry of the bank names the till and passes the masks (R74). -/
def CloseCall.stations (f : CloseCall) (T : Tables) (t : Fin 160) : List Byte :=
  ((List.finRange 256).map BitVec.ofFin).filter fun a => f.names (T.station a) t

/-- The tills a CLOSE_CALL calls: those trading that some entry names (R74). -/
def CloseCall.tills (f : CloseCall) (T : Tables) (bk : Books) : List (Fin 160) :=
  (List.finRange 160).filter fun t => (bk.tills.get t).state.trades && !(f.stations T t).isEmpty

/-- The records with the close-called flag of the named tills set (R74). -/
def callTills (ts : List (Fin 160)) (bk : Books) : Books :=
  { bk with tills := bk.tills.mapIx fun t r => if ts.contains t then { r with closeCalled := true } else r }

/-- A till record at a soft reset (R76). -/
def Till.softReset (r : Till) : Till :=
  if r.state = .pickupDue then { r with timer := r.timer.map fun t => ⟨t.full, t.full⟩ } else r

end Sys2Proof.Machine
end

