-- ==== Sys2Proof/Machine/Flags.lean ====
section
/-! DEFINITION. The status summary that begins every reply and notice: each of its flags, computed from the state as it
stands when the summary is built (R187, section 8.6). -/

namespace Sys2Proof.Machine
open Sys2Proof

/-- The tables of a numbered bank (R177). -/
def TableStore.bank (t : TableStore) (b : Fin 2) : Tables := if b = 0 then t.bank0 else t.bank1

/-- The tables of the ACTIVE bank, which commands and expiries read (R177). -/
def State.activeTables (s : State) : Tables := s.store.bank s.store.active

/-- The number of the STAGED bank (R177). -/
def TableStore.staged (t : TableStore) : Fin 2 := if t.active = 0 then 1 else 0

/-- FAULT of a segment: some set record has it (R173). -/
def State.faultFlag (s : State) (i : Fin 4) : Bool :=
  s.recorder.records.rows.any fun r => r.any fun r => r.segment == .s i

/-- A Station entry names a till in PICKUP_OVERDUE or a safe in STOPPED (R73, R88). -/
def Books.wantsAttention (bk : Books) (e : Station) : Bool :=
  match e.role with
  | .till t _ => (bk.tills.get t).state == .pickupOverdue
  | .safe f => (bk.safes.get f).state == .stopped
  | _ => false

/-- ATTN of a segment: some Station entry of the ACTIVE bank with that segment wants attention (R73, R88). -/
def State.attnFlag (s : State) (i : Fin 4) : Bool :=
  (List.finRange 256).any fun a =>
    let e := s.activeTables.station (BitVec.ofFin a)
    e.segment == i && s.books.wantsAttention e

/-- ADMITFAIL of a segment: some entry is FAILED with that port (R166). -/
def State.admitFailFlag (s : State) (i : Fin 4) : Bool := s.admission.rows.any fun e => e == .failed i

/-- LINK of a segment: its port is UP (R150). -/
def State.linkFlag (s : State) (i : Fin 4) : Bool := (s.links.segs.get i).up

/-- QSTALL (R188). -/
def State.stallFlag (s : State) : Bool := s.mgmt.stalled

/-- ACTPEND (R183). -/
def State.activationFlag (s : State) : Bool := s.store.activation.isSome

/-- DOCK0ACTIVE and DOCK1ACTIVE (R145). -/
def State.dockFlag (s : State) (d : Fin 2) : Bool := (s.books.docks.get d).state.active

/-- The four flags of one segment, FAULT highest. -/
def State.segmentBits (s : State) (i : Fin 4) : Nat :=
  8 * (s.faultFlag i).toNat + 4 * (s.attnFlag i).toNat + 2 * (s.admitFailFlag i).toNat + (s.linkFlag i).toNat

/-- The three bytes of the status summary (section 8.6). -/
def State.summary (s : State) : List Byte :=
  [BitVec.ofNat 8 (16 * s.segmentBits 0 + s.segmentBits 1),
   BitVec.ofNat 8 (16 * s.segmentBits 2 + s.segmentBits 3),
   BitVec.ofNat 8 (128 * s.stallFlag.toNat + 64 * s.activationFlag.toNat + 32 * (s.dockFlag 0).toNat
     + 16 * (s.dockFlag 1).toNat + 8 * s.clock.unset.toNat)]

end Sys2Proof.Machine
end

