-- ==== Sys2Proof/Machine/Ops.lean ====
section
/-! DEFINITION. The named operations every command is built from: the slots of the queues, placing and offering
replies and notices, notice sources, the Fault Recorder, the answers and forwards of station frames, and the Classifier
(chapters 8, 9 and 11). -/

namespace Sys2Proof.Machine
open Sys2Proof

/-- What a command's meaning answers. -/
abbrev Result := Host.Outcome State Fault Refusal

/-! ## Changing one part of the state -/

def State.setSeg (s : State) (p : Fin 4) (f : SegPort → SegPort) : State :=
  { s with links := { s.links with segs := s.links.segs.set p (f (s.links.segs.get p)) } }

def State.setUport (s : State) (f : UpPort → UpPort) : State :=
  { s with links := { s.links with uport := f s.links.uport } }

def State.setNotice (s : State) (c : Fin 8) (f : NoticeClass → NoticeClass) : State :=
  { s with notices := s.notices.set c (f (s.notices.get c)) }

/-- The bank a port stands at (R177). -/
def State.portBank (s : State) : PortId → Fin 2
  | .u => s.links.uport.bank
  | .s i => (s.links.segs.get i).bank

/-! ## Slots of the segment transmit queues (R153) -/

/-- Slots reserved in a segment transmit queue: for the answer to its frame in hand and for U's downstream frame. -/
def State.segReserved (s : State) (p : Fin 4) : Nat :=
  (s.links.segs.get p).hand.isSome.toNat + (s.links.uport.hand.any fun h => h.room == some p).toNat

/-- A slot is free when the frames held and the slots reserved are fewer than 16 (R153). -/
def State.segSlotFree (s : State) (p : Fin 4) : Bool :=
  decide ((s.links.segs.get p).queue.length + s.segReserved p < Config.segSlots)

/-- A frame placed on a segment transmit queue; a DOWN port's queue takes none (R150, R153). -/
def State.pushSeg (s : State) (p : Fin 4) (f : TxFrame) : State :=
  s.setSeg p fun g => if g.up then { g with queue := g.queue ++ [f] } else g

/-- A PICKUP_CALL or CLOSE_CALL: placed only if a slot is free when it is offered (R153, R69, R74). -/
def State.offerSeg (s : State) (p : Fin 4) (f : TxFrame) : State := if s.segSlotFree p then s.pushSeg p f else s

/-! ## Slots of the uplink queue (R154) -/

def State.forwardsHeld (s : State) : Nat := (s.links.uplink.filter fun f => f.cls == .forward).length

/-- Replies and notices held. -/
def State.repliesHeld (s : State) : Nat := (s.links.uplink.filter fun f => f.cls != .forward).length

/-- Common slots reserved for frames in hand or granted to waiting ports. -/
def State.commonReserved (s : State) : Nat :=
  (s.links.segs.toList.map fun g => g.hand.isSome.toNat + g.granted.toNat).sum

/-- Common slots in use (R154). -/
def State.commonInUse (s : State) : Nat :=
  s.forwardsHeld + s.commonReserved + (s.repliesHeld - Config.keptSlots)

def State.commonFree (s : State) : Nat := Config.commonSlots - s.commonInUse

def State.keptFree (s : State) : Nat := Config.keptSlots - s.repliesHeld

/-- Some slot of either kind is free (R154). -/
def State.slotFree (s : State) : Bool := decide (0 < s.keptFree) || decide (0 < s.commonFree)

def State.pushUplink (s : State) (c : UpClass) (f : TxFrame) : State :=
  { s with links := { s.links with uplink := s.links.uplink ++ [⟨c, f⟩] } }

/-! ## Replies and notices (R154, R187, R191) -/

/-- A reply's payload: summary, tag, code, outcome, reason, result (section 8.6, Reply payload). -/
def Reply.payload (r : Reply) (summary : List Byte) : List Byte :=
  summary ++ beBytes 2 r.tag.toNat ++ [r.code]
    ++ (match r.refusal with
      | none => [1, 0]
      | some e => 2 :: oneByte e.code)
    ++ twoBytes r.result.length ++ r.result

/-- A reply placed on the uplink queue with the summary as the state stands (R187; DEDUCED, assumption
15). -/
def State.placeReply (s : State) (r : Reply) : State := s.pushUplink .reply ⟨0, 0, kindReply, r.payload s.summary⟩

/-- A class's sources as the byte of a NOTICE or of a READ_SOURCES reply (section 8.6). -/
def NoticeClass.sourceByte (n : NoticeClass) : Byte :=
  BitVec.ofNat 8 (n.sources.c0.toNat + 2 * n.sources.c1.toNat + 4 * n.sources.c2.toNat + 8 * n.sources.c3.toNat)

/-- A NOTICE placed: the class's pending flag is cleared, and the frame carries its sources as they stand (R191). -/
def State.placeNotice (s : State) (c : Fin 8) : State :=
  let s := s.setNotice c fun n => { n with pending := false }
  s.pushUplink .notice ⟨0, 0, kindNotice, s.summary ++ oneByte c.val ++ [(s.notices.get c).sourceByte]⟩

/-- What is offered is placed at once: no reply or notice waits before it and a slot is free (R154; DEDUCED,
assumption 8). A slot that has freed and is not yet granted is free here, so what is offered before COMMON_SLOT_GRANT may
take it ahead of a segment port that waits (DESIGN CHOICE, assumption 42). -/
def State.canPlace (s : State) : Bool := s.links.waits.isEmpty && s.slotFree

def State.addWait (s : State) (w : WaitItem) : State :=
  { s with links := { s.links with waits := s.links.waits ++ [w] } }

/-- A NOTICE offered: placed, or waiting with the class's pending flag set (R191). -/
def State.offerNotice (s : State) (c : Fin 8) : State :=
  if s.canPlace then s.placeNotice c else (s.addWait (.notice c)).setNotice c fun n => { n with pending := true }

/-- The class of a source, by its place in R191's table. -/
def Source.cls : Source → Fin 8
  | .newFault | .overflow => 0
  | .pickupOverdue => 1
  | .bagFull | .overfill | .safeStopped => 2
  | .carryOverdue | .transferLate => 3
  | .sessionExpired | .discrepantDeposit => 4
  | .arrival | .released | .departureUnconfirmed | .dockFault => 5
  | .stalled | .fenceDone => 6
  | .admissionFailed => 7

/-- The place of a source in its class's list. -/
def Source.place : Source → Fin 4
  | .newFault => 0 | .overflow => 1
  | .pickupOverdue => 0
  | .bagFull => 0 | .overfill => 1 | .safeStopped => 2
  | .carryOverdue => 0 | .transferLate => 1
  | .sessionExpired => 0 | .discrepantDeposit => 1
  | .arrival => 0 | .released => 1 | .departureUnconfirmed => 2 | .dockFault => 3
  | .stalled => 0 | .fenceDone => 1
  | .admissionFailed => 0

/-- A source of the class is set. -/
def NoticeClass.anySource (n : NoticeClass) : Bool := n.sources.any id

/-- A source set: nothing follows if it, or another of its class, stood set; else the class's NOTICE is offered, or its
pending flag set where the class is disabled (R191). -/
def State.setSource (s : State) (c : Source) : State :=
  let n := s.notices.get c.cls
  let s' := s.setNotice c.cls fun n => { n with sources := n.sources.set c.place true }
  if n.anySource then s'
  else if n.enabled then s'.offerNotice c.cls
  else s'.setNotice c.cls fun n => { n with pending := true }

/-- Several sources set by one event: one after the other, in the order in which their rule names them, each as
`setSource` has it. Where they are of one class (bag full and safe stopped, R86), a NOTICE placed at once is placed at
the first and names it alone; R88 and R191 leave open whether it names both (DESIGN CHOICE, assumption 31). -/
def State.setSources (s : State) (cs : List Source) : State := cs.foldl State.setSource s

/-- The command at the head removed; the next one is fresh (R187). -/
def State.popHead (s : State) : State :=
  { s with mgmt := { s.mgmt with queue := s.mgmt.queue.drop 1, phase := .fresh } }

/-- What the placing of a reply completes (R187). -/
def State.complete (s : State) : Completes → State
  | .nothing => s
  | .activate => s
  | .head => s.popHead
  | .fence notify => if notify then s.popHead.setSource .fenceDone else s.popHead

/-- The reply belongs to the command at the head, which stays there until it is placed (R187). -/
def Completes.holdsHead : Completes → Bool
  | .head => true
  | .fence _ => true
  | .nothing => false
  | .activate => false

/-- A reply offered: placed, with its command complete, or waiting (R154, R187). -/
def State.offerReply (s : State) (r : Reply) (c : Completes) : State :=
  if s.canPlace then (s.placeReply r).complete c
  else
    let s := s.addWait (.reply r c)
    if c.holdsHead then { s with mgmt := { s.mgmt with phase := .replyWaiting } } else s

/-! ## The Fault Recorder (R172, R173) -/

/-- A set record names the station. -/
def Recorder.naming (r : Recorder) (station : Byte) : Option (Fin 8) :=
  r.records.firstIx fun f => f.any fun f => f.station == station

/-- The number of set records. -/
def Recorder.setCount (r : Recorder) : Nat := r.records.count fun f => f.isSome

/-- A report: collapse, new record, or overflow; with the source it sets, if any (R173). -/
def Recorder.take (r : Recorder) (station : Byte) (segment : PortId) (kind : Byte) (reason : Reason) (tod : Nat) :
    Recorder × List Source :=
  match r.naming station with
  | some i =>
    ({ r with records := r.records.set i ((r.records.get i).map fun f =>
        { f with collapse := min (f.collapse + 1) Config.collapseHold }) }, [])
  | none =>
    match r.records.firstIx fun f => f.isNone with
    | some i =>
      ({ r with
          records := r.records.set i (some ⟨station, segment, kind, reason, tod, 0⟩)
          first := if r.setCount = 0 then some i else r.first }, [.newFault])
    | none => ({ r with overflow := true }, if r.overflow then [] else [.overflow])

/-- A fault reported (R172, R173). -/
def State.report (s : State) (station : Byte) (segment : PortId) (kind : Byte) (reason : Reason) : State :=
  let (r, sources) := s.recorder.take station segment kind reason s.clock.tod
  { s with recorder := r }.setSources sources

/-- A dock fault: its records, its source, its report (R143). -/
def State.raiseDockFault (s : State) (timing : Timing) (d : Fin 2) (station : Byte) (segment : Fin 4) (kind : Byte)
    (reason : Reason) : State :=
  ({ s with books := dockFaultRecords timing d s.books }.setSource .dockFault).report station (.s segment) kind reason

/-! ## Answers and forwards (R152, R159, R160) -/

/-- The answer payload of section 8.6. -/
def answerPayload (kind : Byte) (refusal : Option Reason) (place : Nat) (result : List Byte) : List Byte :=
  kind :: (match refusal with
    | none => [1, 0]
    | some r => 2 :: oneByte r.code) ++ oneByte place ++ twoBytes result.length ++ result

/-- An answer placed in the slot reserved for it at the arrival port, addressed to the frame's source (R152, R164). -/
def State.answer (s : State) (x : Ctx) (refusal : Option Reason) (place : Nat) (result : List Byte) : State :=
  s.pushSeg x.port ⟨x.src, 0, kindAnswer, answerPayload x.kind refusal place result⟩

/-- The stamp trailer of section 8.6. -/
def stamp (movement : BitVec 32) (accepted : Bool) (bank : Fin 2) (result : List Byte) : List Byte :=
  beBytes 4 movement.toNat ++ [if accepted then 1 else 2] ++ oneByte bank.val ++ twoBytes result.length ++ result

/-- The forward of a frame: the movement number rises for an ACCEPTED one and is carried as it stands for a PASSED one
(R159, R160). -/
def State.forward (s : State) (x : Ctx) (accepted : Bool) (result : List Byte) : State :=
  let m := if accepted then s.links.movement + 1 else s.links.movement
  { s with links := { s.links with movement := m } }.pushUplink .forward
    ⟨0, x.src, x.kind, x.payload ++ stamp m accepted x.bank result⟩

/-- The frame in hand is finished: what it had reserved and not used is released (R152). -/
def State.finish (s : State) (p : Fin 4) : State := s.setSeg p fun g => { g with hand := none }

/-- The answer, the forward, and what else follows an owner's ruling, in one event (R25, R57, R69, R143, R159, R164);
their order within it is DEDUCED (assumption 13). A refused frame has no forward (R80, R159), a DROP_DONE refused with
NOT_GRANTED included, although the end of R85 speaks of its answer in the forward traffic (DESIGN CHOICE, assumption 43). -/
def settle (x : Ctx) : Ruling State → State
  | .accept a =>
    let s := (a.next.setSources a.sources).answer x none 0 a.result
    let s := (s.forward x true a.result).finish x.port
    match a.call with
    | none => s
    | some payload => s.offerSeg x.port ⟨x.src, 0, kindPickupCall, payload⟩
  | .refuse r place result after s =>
    let s := (s.answer x (some r) place result).finish x.port
    match after with
    | .nothing => s
    | .report => s.report x.src (.s x.port) x.kind r
    | .dockFault d => s.raiseDockFault x.tab.timing d x.src x.port x.kind r

/-! ## The Classifier (R162 to R165) -/

/-- The kinds a role may send, but for PASS kinds (R162). -/
def Role.maySend (r : Role) (k : OwnedKind) : Bool :=
  match k with
  | .announce | .ready => r != .none
  | .tillOpen | .tillTender | .tillPaidout | .tillPickup | .tillClose => match r with | .till _ _ => true | _ => false
  | .dropRequest | .dropDone | .dropCancel | .bagOut => match r with | .safe _ => true | _ => false
  | .bagIn | .pouchIn => r == .receiving
  | .countOpen | .countData | .countRecount | .countAbort | .countClose =>
    match r with | .counter _ => true | _ => false
  | .release => r == .supervisor
  | .arriveBeacon | .departBeacon | .custodyPresent | .itemOut | .itemIn | .handoverEnd =>
    match r with | .dock _ => true | _ => false

/-- A station may send a frame of the class: an OUTBOUND kind no role, a PASS kind a station with pass permission
(R162). -/
def Station.maySend (e : Station) : KindClass → Bool
  | .owned k => e.role.maySend k
  | .outbound => false
  | .pass => e.role != .none && e.pass

/-- ANNOUNCE and READY need no admission (R163, step 4). -/
def KindClass.joining : KindClass → Bool
  | .owned .announce => true
  | .owned .ready => true
  | _ => false

/-- The address is ADMITTED (R166). -/
def State.admitted (s : State) (a : Byte) : Bool :=
  match s.admission.get a.toFin with
  | .admitted _ => true
  | _ => false

/-- Steps 1 to 5 of R163: the first that fails. -/
def classify (s : State) (x : Ctx) (c : KindClass) : Option Reason :=
  if x.src = 0 ∨ x.src = 255 then some .malformed
  else if x.entry.role = .none then some .unknownStation
  else if x.entry.segment ≠ x.port then some .wrongSegment
  else if !c.joining ∧ !s.admitted x.src then some .notAdmitted
  else if !x.entry.maySend c then some .kindNotPermitted
  else none

/-- What the arrival of a frame's last byte at a segment port comes to. -/
inductive Arrival (α : Type) where
  /-- no frame of this kind is in hand at the port, so the step does not occur -/
  | absent
  /-- the receive check fails (R151) -/
  | damaged
  /-- the Classifier refuses the frame (R163, R164) -/
  | refused (x : Ctx) (r : Reason)
  /-- the frame goes on to its owner with its payload read (R165) -/
  | passed (x : Ctx) (a : α)

/-- A frame in hand as its owner sees it (R152, R165). -/
def State.ctx (s : State) (p : Fin 4) (h : Hand) (b : FrameBody) : Ctx :=
  let tab := s.store.bank h.bank
  { port := p, src := h.hdr.src, kind := h.hdr.kind, payload := b.payload, bank := h.bank, tab := tab
    entry := tab.station h.hdr.src, clock := s.clock }

/-- The receive check and the six steps of R163 on the frame in hand at a port, for a row of the given kind class whose
payload is read by `parse` (DEDUCED, assumption 3). -/
def arrival {α : Type} (c : KindClass) (parse : List Byte → Option α) (p : Fin 4) (b : FrameBody) (s : State) :
    Arrival α :=
  match (s.links.segs.get p).hand with
  | none => .absent
  | some h =>
    if kindClass h.hdr.kind ≠ c then .absent
    else if !receiveOk h.hdr b then .damaged
    else
      let x := s.ctx p h b
      match classify s x c with
      | some r => .refused x r
      | none =>
        match parse b.payload with
        | none => .refused x .malformed
        | some a => .passed x a

/-- A frame that fails the receive check: discarded without answer, the error count raised, its room released (R151). -/
def SegPort.damaged (g : SegPort) : SegPort := { g with hand := none, errors := min (g.errors + 1) Config.countHold }

/-- A frame of a row at a segment port, through to its owner and its answer; `own` is the owner's rule. -/
def stationFrame {α : Type} (c : KindClass) (parse : List Byte → Option α) (own : Ctx → α → State → Ruling State)
    (p : Fin 4) (b : FrameBody) (s : State) : State :=
  match arrival c parse p b s with
  | .absent => s
  | .damaged => s.setSeg p SegPort.damaged
  | .refused x r => settle x (.refuse r 0 [] .report s)
  | .passed x a => settle x (own x a s)

/-- A frame whose owner acts on the records of chapters 2 to 7 alone. -/
def bookFrame {α : Type} (k : OwnedKind) (parse : List Byte → Option α) (own : Ctx → α → Books → Ruling Books)
    (p : Fin 4) (b : FrameBody) (s : State) : State :=
  stationFrame (.owned k) parse (fun x a s => (own x a s.books).on fun bk => { s with books := bk }) p b s

/-- An expiry over the records of chapters 2 to 7: nothing happens where the timer has not run down
(DESIGN CHOICE, assumptions 1 and 6). -/
def bookExpiry (f : Books → Option (Accepted Books)) (s : State) : State :=
  match f s.books with
  | none => s
  | some a => { s with books := a.next }.setSources a.sources

/-! ## Queued commands (R187) -/

/-- The command at the head, if the Management Engine may act on it and it has the given code (R187; DEDUCED,
assumption 5). -/
def State.headCommand (s : State) (code : Byte) : Option Command :=
  if s.mgmt.stalled ∨ s.mgmt.phase ≠ .fresh then none
  else match s.mgmt.queue with
    | c :: _ => if c.code = code then some c else none
    | [] => none

/-- The head command with its parameters read; none where they are malformed (R188). -/
def State.headOperand {α : Type} (s : State) (code : Byte) (parse : List Byte → Option α) : Option (Command × α) :=
  match s.headCommand code with
  | none => none
  | some c => (parse c.params).map fun a => (c, a)

/-- An outcome replied: refused with its reason, or accepted with its result (R187). -/
def State.replyTo (s : State) (c : Command) (refusal : Option Reason) (result : List Byte) : State :=
  s.offerReply ⟨c.tag, c.code, refusal, result⟩ .head

/-- A queued command acted on: nothing happens where it is not what stands at the head. -/
def queued {α : Type} (code : Byte) (parse : List Byte → Option α)
    (act : α → State → Except Reason (State × List Byte)) (s : State) : State :=
  match s.headOperand code parse with
  | none => s
  | some (c, a) =>
    match act a s with
    | .error r => s.replyTo c (some r) []
    | .ok (s', result) => s'.replyTo c none result

/-- A queued command whose owner acts on the records of chapters 2 to 7 alone. -/
def queuedBooks {α : Type} (code : Byte) (parse : List Byte → Option α)
    (act : α → State → Except Reason (Books × List Byte)) (s : State) : State :=
  queued code parse (fun a s =>
    match act a s with
    | .error r => .error r
    | .ok (bk, result) => .ok ({ s with books := bk }, result)) s

/-- A queued command that reads and changes nothing. -/
def queuedRead {α : Type} (code : Byte) (parse : List Byte → Option α)
    (act : α → State → Except Reason (List Byte)) (s : State) : State :=
  queued code parse (fun a s =>
    match act a s with
    | .error r => .error r
    | .ok result => .ok (s, result)) s

end Sys2Proof.Machine
end

