-- ==== Sys2Proof/Machine/CountingUnit.lean ====
section
/-! DEFINITION. The commands of the Counting Unit (chapter 6): the lane frames, the idle timer, and the release. -/

namespace Sys2Proof.Machine
open Sys2Proof

/-- COUNT_OPEN (R104, R105). -/
def execCountOpen (p : Fin 4) (b : FrameBody) (s : State) : Result :=
  .next (bookFrame .countOpen readDepositStaff countOpen p b s)

/-- COUNT_DATA (R107 to R109). -/
def execCountData (p : Fin 4) (b : FrameBody) (s : State) : Result :=
  .next (bookFrame .countData readCountData countData p b s)

/-- COUNT_RECOUNT (R110). -/
def execCountRecount (p : Fin 4) (b : FrameBody) (s : State) : Result :=
  .next (bookFrame .countRecount readNothing (fun x _ => countRecount x) p b s)

/-- COUNT_ABORT (R111). -/
def execCountAbort (p : Fin 4) (b : FrameBody) (s : State) : Result :=
  .next (bookFrame .countAbort readNothing (fun x _ => countAbort x) p b s)

/-- IDLE_TIMER_EXPIRY (R112). -/
def execIdleTimerExpiry (l : Fin 6) (s : State) : Result := .next (bookExpiry (idleExpiry l) s)

/-- COUNT_CLOSE (R114, R115). -/
def execCountClose (p : Fin 4) (b : FrameBody) (s : State) : Result :=
  .next (bookFrame .countClose readNothing (fun x _ => countClose x) p b s)

/-- RELEASE (R119, R120). -/
def execRelease (p : Fin 4) (b : FrameBody) (s : State) : Result :=
  .next (bookFrame .release readDepositStaff release p b s)

end Sys2Proof.Machine
end

