-- ==== Sys2Proof/Machine/DepositRegister.lean ====
section
/-! DEFINITION. The commands of the Deposit Register that no other owner gives (chapter 3): the carry timer and the
purge. READ_DEPOSIT stands in Machine/Reads.lean. -/

namespace Sys2Proof.Machine
open Sys2Proof

/-- CARRY_TIMER_EXPIRY (R50). -/
def execCarryTimerExpiry (d : Fin 512) (s : State) : Result := .next (bookExpiry (carryExpiry d) s)

/-- PURGE_CLOSED (R51). -/
def execPurgeClosed (s : State) : Result :=
  .next (queuedBooks 0x03 readNothing
    (fun _ s => .ok ((purgeClosed s.books).1, twoBytes (purgeClosed s.books).2)) s)

end Sys2Proof.Machine
end

