-- ==== Sys2Proof/Machine/DockUnit.lean ====
section
/-! DEFINITION. The commands of the Dock Unit (chapter 7): the dock frames, the dock timers, and the commands that build
consignments and open or unlock a dock. -/

namespace Sys2Proof.Machine
open Sys2Proof

/-- ARRIVE_BEACON (R133, R134). -/
def execArriveBeacon (p : Fin 4) (b : FrameBody) (s : State) : Result :=
  .next (bookFrame .arriveBeacon readId arriveBeacon p b s)

/-- A dock fault raised by an expiry: under the ACTIVE bank, reported with the handover's terminal and its last kind
(R143); without a terminal, which R131 rules out, it is not reported (DESIGN CHOICE, assumption 19). -/
def State.expiryFault (s : State) (d : Fin 2) (reason : Reason) : State :=
  match (s.books.docks.get d).visit with
  | some v => s.raiseDockFault s.activeTables.timing d v.station v.segment v.lastKind reason
  | none => { s with books := dockFaultRecords s.activeTables.timing d s.books }.setSource .dockFault

/-- ARRIVAL_QUALIFICATION_EXPIRY (R134). -/
def execArrivalQualificationExpiry (d : Fin 2) (s : State) : Result :=
  .next (match arrivalExpiry s.activeTables d s.books with
    | none => s
    | some .fails => s.expiryFault d .courierUnknown
    | some (.completes a) => { s with books := a.next }.setSources a.sources)

/-- ARRIVAL_GAP_EXPIRY (R134). -/
def execArrivalGapExpiry (d : Fin 2) (s : State) : Result := .next (bookExpiry (arrivalGap d) s)

/-- CUSTODY_PRESENT (R136, R137). -/
def execCustodyPresent (p : Fin 4) (b : FrameBody) (s : State) : Result :=
  .next (bookFrame .custodyPresent readId custodyPresent p b s)

/-- PAIRING_TIMER_EXPIRY (R136). -/
def execPairingTimerExpiry (d : Fin 2) (s : State) : Result :=
  .next (if pairingDue d s.books then s.expiryFault d .pairingTimeout else s)

/-- ITEM_OUT (R138). -/
def execItemOut (p : Fin 4) (b : FrameBody) (s : State) : Result :=
  .next (bookFrame .itemOut readContainerNumber itemOut p b s)

/-- ITEM_IN (R139). -/
def execItemIn (p : Fin 4) (b : FrameBody) (s : State) : Result := .next (bookFrame .itemIn readContainer itemIn p b s)

/-- HANDOVER_END (R140). -/
def execHandoverEnd (p : Fin 4) (b : FrameBody) (s : State) : Result :=
  .next (bookFrame .handoverEnd readNothing (fun x _ => handoverEnd x) p b s)

/-- DEPART_BEACON (R141). -/
def execDepartBeacon (p : Fin 4) (b : FrameBody) (s : State) : Result :=
  .next (bookFrame .departBeacon readId departBeacon p b s)

/-- DEPARTURE_QUALIFICATION_EXPIRY (R141). -/
def execDepartureQualificationExpiry (d : Fin 2) (s : State) : Result := .next (bookExpiry (departureExpiry d) s)

/-- DEPARTURE_GAP_EXPIRY (R141). -/
def execDepartureGapExpiry (d : Fin 2) (s : State) : Result := .next (bookExpiry (departureGap d) s)

/-- HANDOVER_TIMER_EXPIRY (R142). -/
def execHandoverTimerExpiry (d : Fin 2) (s : State) : Result :=
  .next (match limitExpiry d s.books with
    | none => s
    | some .faults => s.expiryFault d .handoverTimeout
    | some (.ends a) => { s with books := a.next }.setSources a.sources)

/-- LOCKOUT_TIMER_EXPIRY (R144). -/
def execLockoutTimerExpiry (d : Fin 2) (s : State) : Result := .next (bookExpiry (lockoutExpiry d) s)

/-- CONSIGN_CREATE (R125). -/
def execConsignCreate (s : State) : Result := .next (queuedBooks 0x0B (readIndex 2) (fun d s => consignCreate d s.books) s)

/-- CONSIGN_LOAD (R126). -/
def execConsignLoad (s : State) : Result :=
  .next (queuedBooks 0x0C readConsignLoad (fun q s => consignLoad s.activeTables q s.books) s)

/-- CONSIGN_ADD (R127). -/
def execConsignAdd (s : State) : Result := .next (queuedBooks 0x0D readConsignAdd (fun q s => consignAdd q s.books) s)

/-- CONSIGN_REMOVE (R128). -/
def execConsignRemove (s : State) : Result :=
  .next (queuedBooks 0x0E readConsignRemove (fun q s => consignRemove q s.books) s)

/-- CONSIGN_READY (R129). -/
def execConsignReady (s : State) : Result := .next (queuedBooks 0x0F (readIndex 8) (fun k s => consignReady k s.books) s)

/-- CONSIGN_CANCEL (R130). -/
def execConsignCancel (s : State) : Result := .next (queuedBooks 0x10 (readIndex 8) (fun k s => consignCancel k s.books) s)

/-- OPEN_HANDOVER (R135). -/
def execOpenHandover (s : State) : Result := .next (queuedBooks 0x11 (readIndex 2) (fun d s => openHandover d s.books) s)

/-- DOCK_UNLOCK (R144). -/
def execDockUnlock (s : State) : Result := .next (queuedBooks 0x12 (readIndex 2) (fun d s => dockUnlock d s.books) s)

end Sys2Proof.Machine
end

