-- ==== Sys2Proof/Machine/Joining.lean ====
section
/-! DEFINITION. The commands of the Admission Unit (section 9.3). -/

namespace Sys2Proof.Machine
open Sys2Proof

def State.setAdmission (s : State) (a : Byte) (e : Admission) : State :=
  { s with admission := s.admission.set a.toFin e }

/-- ANNOUNCE: taken in every admission state; its answer is the WELCOME (R167). -/
def announce (x : Ctx) (_ : Unit) (s : State) : Ruling State :=
  let timeout := x.tab.timing.admission
  .accept {
    next := s.setAdmission x.src (.welcomed x.port timeout)
    result := oneByte x.entry.role.code ++ oneByte x.entry.role.unit ++ twoBytes timeout }

/-- READY: taken in WELCOMED, refused with BAD_STATE in the other states (R168). -/
def ready (x : Ctx) (_ : Unit) (s : State) : Ruling State :=
  match s.admission.get x.src.toFin with
  | .welcomed p _ => .accept { next := s.setAdmission x.src (.admitted p) }
  | _ => .no .badState s

/-- ANNOUNCE (R167). -/
def execAnnounce (p : Fin 4) (b : FrameBody) (s : State) : Result :=
  .next (stationFrame (.owned .announce) readNothing announce p b s)

/-- READY (R168). -/
def execReady (p : Fin 4) (b : FrameBody) (s : State) : Result :=
  .next (stationFrame (.owned .ready) readNothing ready p b s)

/-- ADMISSION_TIMER_EXPIRY: a timer that has run down takes its entry to FAILED at its port (R168). -/
def execAdmissionTimerExpiry (a : Byte) (s : State) : Result :=
  .next (match s.admission.get a.toFin with
    | .welcomed p 0 => (s.setAdmission a (.failed p)).setSource .admissionFailed
    | _ => s)

end Sys2Proof.Machine
end

