-- ==== Sys2Proof/Machine/Ports.lean ====
section
/-! DEFINITION. The ports, the uplink queue and its arbiter (chapter 8), a port's change of bank with the completion of an
activation (R183, R184), the seconds of the timebase, and power-on reset. -/

namespace Sys2Proof.Machine
open Sys2Proof

/-- POWER_ON_RESET: every item takes its power-on value; the outside's own queue is not part of the machine. -/
def execPowerOnReset (s : State) : Result := .next { State.reset with pending := s.pending }

/-! ## The seconds of the timebase (R190) -/

/-- A timer one second on; at 0 it has run down and its expiry is due (DESIGN CHOICE, assumption 6). -/
def Timer.tick (t : Timer) : Timer := { t with remaining := t.remaining - 1 }

/-- A timer without a full length one second on. -/
def secondOn (t : Option Nat) : Option Nat := t.map (· - 1)

/-- The two timers of a qualification one second on, together, until one of them has run down: that one's expiry decides
the qualification, so a beacon gap that ran out before its qualification never completes, and one whose qualification ran
out first completes. Both stand at 0 only where they fall together (R134, R141; DESIGN CHOICE, assumption 6). -/
def Qualification.tick (q : Qualification) : Qualification :=
  if q.qual = 0 ∨ q.gap = 0 then q else { q with qual := q.qual - 1, gap := q.gap - 1 }

def Handover.tick (h : Handover) : Handover :=
  { h with
    qualify := h.qualify.map Qualification.tick
    pairing := secondOn h.pairing
    limit := secondOn h.limit
    lockout := secondOn h.lockout }

/-- Every timer of chapters 3 to 7 one second on (R50, R70, R81, R94, R112, R131). -/
def Books.tick (bk : Books) : Books :=
  { bk with
    deposits := bk.deposits.map fun d => d.map fun d => { d with carry := secondOn d.carry }
    tills := bk.tills.map fun r => { r with timer := r.timer.map Timer.tick }
    safes := bk.safes.map fun f => { f with reservation := f.reservation.map fun r => { r with grant := r.grant - 1 } }
    transfers := bk.transfers.map fun t => t.map fun t => { t with timer := t.timer.map Timer.tick }
    lanes := bk.lanes.map fun l => { l with session := l.session.map fun ss => { ss with idle := ss.idle.tick } }
    docks := bk.docks.map Handover.tick }

/-- An admission timer one second on (R166). -/
def Admission.tick : Admission → Admission
  | .welcomed p t => .welcomed p (t - 1)
  | e => e

/-- TIME_OF_DAY_TICK: the time of day rises by 1, 86,399 followed by 0, and every running timer loses a second (R190). -/
def execTimeOfDayTick (s : State) : Result :=
  .next { s with
    clock := { s.clock with tod := (s.clock.tod + 1) % Config.daySeconds }
    books := s.books.tick
    admission := s.admission.map Admission.tick }

/-! ## Link state (R150) -/

/-- LINK_UP (R150): the second in lock has passed outside (DESIGN CHOICE, assumption 7). -/
def execLinkUp (p : PortId) (s : State) : Result :=
  .next (match p with
    | .u => s.setUport fun g => { g with up := true }
    | .s i => s.setSeg i fun g => { g with up := true })

/-- The port an admission entry stands at (R166). -/
def Admission.port : Admission → Option (Fin 4)
  | .absent => none
  | .welcomed p _ => some p
  | .admitted p => some p
  | .failed p => some p

/-- A segment port as it goes DOWN (R150). -/
def SegPort.down (g : SegPort) : SegPort :=
  { g with up := false, hand := none, queue := [], waiting := false, granted := false }

/-- Every station at a segment port ABSENT (R169). -/
def State.stationsAbsent (s : State) (i : Fin 4) : State :=
  { s with admission := s.admission.map fun e => if e.port = some i then .absent else e }

/-- LINK_DOWN (R150, R169): nothing happens at a port already DOWN (DESIGN CHOICE, assumptions 1 and 7). -/
def execLinkDown (p : PortId) (s : State) : Result :=
  .next (match p with
    | .u => if s.links.uport.up then s.setUport fun g => { g with up := false, hand := none } else s
    | .s i => if (s.links.segs.get i).up then (s.setSeg i SegPort.down).stationsAbsent i else s)

/-! ## Changing banks (R183, R184) -/

/-- A port is at a frame boundary: it is not in a frame (R152). -/
def State.atBoundary (s : State) : PortId → Bool
  | .u => s.links.uport.hand.isNone
  | .s i => (s.links.segs.get i).hand.isNone

/-- The port stands at a frame boundary of a pending activation and has not changed its bank yet (R183). -/
def State.switchDue (s : State) (p : PortId) : Bool :=
  s.store.activation.isSome && s.atBoundary p && s.portBank p != s.store.staged

/-- A port's current bank set. -/
def State.setPortBank (s : State) (p : PortId) (b : Fin 2) : State :=
  match p with
  | .u => s.setUport fun g => { g with bank := b }
  | .s i => s.setSeg i fun g => { g with bank := b }

def allPorts : List PortId := [.u, .s 0, .s 1, .s 2, .s 3]

/-- Two Station entries differ in role, segment or unit index (R169). -/
def Station.moved (e f : Station) : Bool :=
  e.role.code != f.role.code || e.segment != f.segment || e.role.unit != f.role.unit

/-- The station addresses 1 to 254 whose entry moves between two banks (R169, R184; DEDUCED,
assumption 17). -/
def movedStations (old new : Tables) : List (Fin 256) :=
  (List.finRange 256).filter fun a =>
    let b := BitVec.ofFin a
    b != 0 && b != 255 && (old.station b).moved (new.station b)

/-- The completion of an activation: the banks exchange, the new STAGED bank is a copy, the moved stations go ABSENT,
ACTPEND falls, and the ACTIVATE is replied to (R184). -/
def State.completeActivation (s : State) (tag : BitVec 16) : State :=
  let b := s.store.staged
  let T := s.store.bank b
  let moved := movedStations s.activeTables T
  let s : State := { s with
    store := ⟨T, T, b, none⟩
    admission := s.admission.mapIx fun a e => if moved.contains a then .absent else e }
  s.offerReply ⟨tag, 0x18, none, oneByte b.val ++ twoBytes moved.length⟩ .activate

/-- The activation completes when the last of the five ports has changed (R184). -/
def State.completeIfLast (s : State) : State :=
  match s.store.activation with
  | some tag => if allPorts.all fun p => s.portBank p == s.store.staged then s.completeActivation tag else s
  | none => s

/-- The change of one port's bank where it is due (R183, R184; DEDUCED, assumption 12). -/
def State.switchPort (s : State) (p : PortId) : State :=
  if s.switchDue p then (s.setPortBank p s.store.staged).completeIfLast else s

/-- PORT_BANK_SWITCH (R183): nothing happens where no change is due. -/
def execPortBankSwitch (p : PortId) (s : State) : Result := .next (s.switchPort p)

/-! ## Headers (R152, R157, R158) -/

/-- Some segment port waits for a common slot (R155). -/
def State.someWaits (s : State) : Bool := s.links.segs.any fun g => g.waiting

/-- A free common slot that a segment port may take directly: no port waits, and no reply or notice waits (R152, R154,
R155; DEDUCED, assumption 8). -/
def State.directSlot (s : State) : Bool :=
  decide (0 < s.commonFree) && !s.someWaits && s.links.waits.isEmpty

/-- The uplink has a common slot for the port: one granted to it, or one free to take directly (R152). -/
def State.commonFor (s : State) (p : Fin 4) : Bool := (s.links.segs.get p).granted || s.directSlot

/-- SEGMENT_FRAME_HEADER (R152): a change of bank that is due at the boundary comes first (R183; DEDUCED,
assumptions 9 and 12). -/
def execSegmentFrameHeader (p : Fin 4) (h : FrameHeader) (s : State) : Result :=
  let s := s.switchPort (.s p)
  .next (if (s.links.segs.get p).hand.isNone && s.segSlotFree p && s.commonFor p then
      s.setSeg p fun g => { g with hand := some ⟨h, g.bank⟩, granted := false, busy := false }
    else s.setSeg p fun g => { g with busy := true, waiting := g.waiting || !s.commonFor p })

/-- Where the uplink port finds room for a frame by its destination: none where it has to send BUSY (R157, R158;
DEDUCED, assumption 10). -/
def State.uplinkRoom (s : State) (h : FrameHeader) : Option UpHand :=
  if h.dst = 0 then if s.slotFree then some ⟨h, none⟩ else none
  else if h.dst = 255 then some ⟨h, none⟩
  else
    let e := (s.store.bank s.links.uport.bank).station h.dst
    if e.role = .none then some ⟨h, none⟩
    else if s.segSlotFree e.segment then some ⟨h, some e.segment⟩ else none

/-- UPLINK_FRAME_HEADER (R157, R158): a header at a DOWN U is judged as at one that is UP (DEDUCED, assumption 9). -/
def execUplinkFrameHeader (h : FrameHeader) (s : State) : Result :=
  let s := s.switchPort .u
  .next (match s.links.uport.hand, s.uplinkRoom h with
    | none, some room => s.setUport fun g => { g with hand := some room, busy := false }
    | _, _ => s.setUport fun g => { g with busy := true })

/-! ## Frames that no owner acts on -/

/-- The uplink port after a frame that fails the receive check (R151). -/
def UpPort.damaged (g : UpPort) : UpPort := { g with hand := none, errors := min (g.errors + 1) Config.countHold }

/-- RECEIVE_CHECK_FAIL (R151): nothing happens where no frame is in hand or the frame passes (DEDUCED, assumption 3). -/
def execReceiveCheckFail (p : PortId) (b : FrameBody) (s : State) : Result :=
  .next (match p with
    | .u => match s.links.uport.hand with
      | some h => if receiveOk h.hdr b then s else s.setUport UpPort.damaged
      | none => s
    | .s i => match (s.links.segs.get i).hand with
      | some h => if receiveOk h.hdr b then s else s.setSeg i SegPort.damaged
      | none => s)

/-- PASS_FRAME: forwarded with outcome PASSED and no answer (R165, R159). -/
def execPassFrame (p : Fin 4) (b : FrameBody) (s : State) : Result :=
  .next (match arrival .pass readAnything p b s with
    | .absent => s
    | .damaged => s.setSeg p SegPort.damaged
    | .refused x r => settle x (.refuse r 0 [] .report s)
    | .passed x _ => (s.forward x false []).finish p)

/-- OUTBOUND_KIND_STATION_FRAME: refused by the Classifier for every role (R162, R163). -/
def execOutboundKindStationFrame (p : Fin 4) (b : FrameBody) (s : State) : Result :=
  .next (stationFrame .outbound readAnything (fun _ _ s => .reported .kindNotPermitted s) p b s)

/-- What the arrival of a frame's last byte at U comes to, for a row that takes the destinations that pass. -/
inductive UpArrival where
  | absent
  | damaged
  | taken (h : UpHand)

def upArrival (takes : Byte → Bool) (b : FrameBody) (s : State) : UpArrival :=
  match s.links.uport.hand with
  | none => .absent
  | some h => if !takes h.hdr.dst then .absent else if !receiveOk h.hdr b then .damaged else .taken h

/-- U's frame is finished (R152). -/
def State.finishUp (s : State) : State := s.setUport fun g => { g with hand := none }

/-- DOWNSTREAM_FRAME: placed unchanged on the station's segment queue, or dropped with UNREACHABLE (R158). -/
def execDownstreamFrame (b : FrameBody) (s : State) : Result :=
  .next (match upArrival (fun a => a != 0 && a != 255) b s with
    | .absent => s
    | .damaged => s.setUport UpPort.damaged
    | .taken h =>
      let s := s.finishUp
      let dropped := s.report h.hdr.dst .u h.hdr.kind .unreachable
      match h.room with
      | none => dropped
      | some i =>
        if s.admitted h.hdr.dst && (s.links.segs.get i).up then
          s.pushSeg i ⟨h.hdr.dst, h.hdr.src, h.hdr.kind, b.payload⟩
        else dropped)

/-- DESTINATION_255_FRAME: dropped, with a MALFORMED fault of station 255, segment U (R157). -/
def execDestination255Frame (b : FrameBody) (s : State) : Result :=
  .next (match upArrival (fun a => a == 255) b s with
    | .absent => s
    | .damaged => s.setUport UpPort.damaged
    | .taken h => s.finishUp.report 255 .u h.hdr.kind .malformed)

/-! ## Frames leaving, slots freeing (R153 to R156) -/

/-- SEGMENT_FRAME_SENT: the first frame leaves while the port is UP (R153). -/
def execSegmentFrameSent (p : Fin 4) (s : State) : Result :=
  .next (match (s.links.segs.get p).queue with
    | f :: rest =>
      if (s.links.segs.get p).up then s.setSeg p fun g => { g with queue := rest, line := some f } else s
    | [] => s)

/-- UPLINK_FRAME_SENT: the first frame leaves while U is UP (R156). -/
def execUplinkFrameSent (s : State) : Result :=
  .next (match s.links.uplink with
    | f :: rest =>
      if s.links.uport.up then
        { s with links := { s.links with uplink := rest, uport := { s.links.uport with line := some f.frame } } }
      else s
    | [] => s)

/-- WAITING_REPLY_PLACED: the first of the waiting list takes the slot that has freed (R154). -/
def execWaitingReplyPlaced (s : State) : Result :=
  .next (match s.links.waits with
    | w :: rest =>
      if s.slotFree then
        let s : State := { s with links := { s.links with waits := rest } }
        match w with
        | .reply r c => (s.placeReply r).complete c
        | .notice c => s.placeNotice c
      else s
    | [] => s)

/-- The first waiting port in the order S0, S1, S2, S3, S0 and so on, from the pointer (R155). -/
def State.nextWaiting (s : State) : Option (Fin 4) :=
  [s.links.pointer, s.links.pointer + 1, s.links.pointer + 2, s.links.pointer + 3].find? fun p =>
    (s.links.segs.get p).waiting

/-- COMMON_SLOT_GRANT: a free common slot goes to the next waiting port and the pointer moves past it (R155). -/
def execCommonSlotGrant (s : State) : Result :=
  .next (match s.nextWaiting with
    | some p =>
      if 0 < s.commonFree ∧ s.links.waits.isEmpty then
        let s := s.setSeg p fun g => { g with waiting := false, granted := true }
        { s with links := { s.links with pointer := p + 1 } }
      else s
    | none => s)

end Sys2Proof.Machine
end

