-- ==== Sys2Proof/Machine/Management.lean ====
section
/-! DEFINITION. The Management Engine (chapter 11): taking a management frame, the immediate commands, the stall, FENCE,
the time of day, the notice classes and SOFT_RESET; with OPENING (R27) and FAULT_CLEAR (R175). -/

namespace Sys2Proof.Machine
open Sys2Proof

/-! ## The queue -/

def State.setMgmt (s : State) (m : Mgmt) : State := { s with mgmt := m }

/-- Whether parameters are well formed for a command code that is queued; none where the code names no such command
(R188, section 8.6). -/
def paramsOk (code : Byte) (ps : List Byte) : Option Bool :=
  match code.toNat with
  | 0x01 => some (readDeclared ps).isSome
  | 0x02 => some (readPositionsSel ps).isSome
  | 0x03 => some (readNothing ps).isSome
  | 0x04 => some (readDepositSel ps).isSome
  | 0x05 => some (readFloatIssue ps).isSome
  | 0x06 => some (readIndex 160 ps).isSome
  | 0x07 => some (readCloseCall ps).isSome
  | 0x08 => some (readTillSel ps).isSome
  | 0x09 => some (readSafeSel ps).isSome
  | 0x0A => some (readLaneRange ps).isSome
  | 0x0B => some (readIndex 2 ps).isSome
  | 0x0C => some (readConsignLoad ps).isSome
  | 0x0D => some (readConsignAdd ps).isSome
  | 0x0E => some (readConsignRemove ps).isSome
  | 0x0F => some (readIndex 8 ps).isSome
  | 0x10 => some (readIndex 8 ps).isSome
  | 0x11 => some (readIndex 2 ps).isSome
  | 0x12 => some (readIndex 2 ps).isSome
  | 0x13 => some (readDockSel ps).isSome
  | 0x14 => some (readFaultClear ps).isSome
  | 0x15 => some (readNothing ps).isSome
  | 0x16 => some (readTableWrite ps).isSome
  | 0x17 => some (readTableRead ps).isSome
  | 0x18 => some (readNothing ps).isSome
  | 0x19 => some (readNotify ps).isSome
  | 0x1A => some (readTimeOfDay ps).isSome
  | 0x1B => some (readNoticeEnable ps).isSome
  | 0x1C => some (readIndex 8 ps).isSome
  | 0x1D => some (readNothing ps).isSome
  | _ => none

/-- Why the queue stalls at a command, if it does (R188). -/
def Command.stallReason (c : Command) : Option Reason :=
  match paramsOk c.code c.params with
  | none => some .unknownCommand
  | some false => some .malformed
  | some true => none

/-- QUEUE_STALL (R188): nothing happens where the head is not a command that stalls, or the queue is stalled already. -/
def execQueueStall (s : State) : Result :=
  .next (match s.mgmt.queue with
    | c :: _ =>
      if !s.mgmt.stalled ∧ s.mgmt.phase = .fresh ∧ c.stallReason.isSome then
        (s.setMgmt { s.mgmt with stalled := true }).setSource .stalled
      else s
    | [] => s)

/-! ## The immediate commands (R189) -/

/-- A command discarded: its reply is REFUSE with DISCARDED and its own tag. -/
def State.discard (s : State) (c : Command) : State := s.offerReply ⟨c.tag, c.code, some .discarded, []⟩ .nothing

/-- An immediate command replied to. -/
def State.replyNow (s : State) (c : Command) (refusal : Option Reason) (result : List Byte) : State :=
  s.offerReply ⟨c.tag, c.code, refusal, result⟩ .nothing

/-- The stalled command as READ_STATUS shows it: tag, code and reason. -/
def State.stalledBytes (s : State) : List Byte :=
  match s.mgmt.stalled, s.mgmt.queue with
  | true, c :: _ =>
    1 :: beBytes 2 c.tag.toNat ++ [c.code] ++ oneByte (match c.stallReason with
      | some r => r.code
      | none => 0)
  | _, _ => [0]

/-- Every class's enable and pending flag, in class order (R189, R192). -/
def State.classFlags (s : State) : List Byte :=
  (s.notices.rows.map fun n => flagByte n.enabled ++ flagByte n.pending).flatten

/-- What READ_STATUS replies (R189; the layout is DEDUCED, assumption 22, and its counts of frames and of waiting entries in
2 bytes, assumption 38). -/
def State.statusBytes (s : State) : List Byte :=
  twoBytes s.links.uport.errors ++ (s.links.segs.toList.map fun g => twoBytes g.errors).flatten
    ++ beBytes 4 s.links.movement.toNat
    ++ twoBytes s.mgmt.queue.length ++ s.stalledBytes
    ++ oneByte s.store.active.val ++ (allPorts.map fun p => oneByte (s.portBank p).val).flatten
    ++ fourBytes s.clock.tod ++ s.classFlags
    ++ twoBytes s.forwardsHeld ++ twoBytes s.repliesHeld ++ twoBytes s.links.waits.length

/-- RESUME (R189). -/
def State.resume (s : State) (c : Command) : State :=
  match s.mgmt.stalled, s.mgmt.queue with
  | true, h :: rest => ((s.setMgmt ⟨rest, false, .fresh⟩).discard h).replyNow c none []
  | _, _ => s.replyNow c (some .badState) []

/-- The commands a FLUSH leaves: the head alone, where it has been acted on and its reply waits (R189). -/
def Mgmt.kept (m : Mgmt) : List Command := if m.phase = .replyWaiting then m.queue.take 1 else []

/-- The commands a FLUSH removes. -/
def Mgmt.flushed (m : Mgmt) : List Command := if m.phase = .replyWaiting then m.queue.drop 1 else m.queue

/-- FLUSH (R189). -/
def State.flush (s : State) (c : Command) : State :=
  let m := s.mgmt
  let phase := if m.phase = .replyWaiting then m.phase else .fresh
  ((m.flushed.foldl State.discard (s.setMgmt ⟨m.kept, false, phase⟩)).replyNow c none (twoBytes m.flushed.length))

/-- An immediate command carried out, or refused with MALFORMED where it has parameters (R189). -/
def State.immediate (s : State) (c : Command) : State :=
  if c.params ≠ [] then s.replyNow c (some .malformed) []
  else if c.code = 0x1E then s.replyNow c none s.statusBytes
  else if c.code = 0x1F then s.resume c
  else s.flush c

/-! ## Taking a management frame (R186) -/

/-- A command of a frame that has room: an immediate command is carried out, another is appended. -/
def State.takeCommand (s : State) (c : Command) : State :=
  if immediateCode c.code then s.immediate c
  else s.setMgmt { s.mgmt with queue := s.mgmt.queue ++ [c] }

/-- The commands of a frame handled in payload order, or its queued commands refused together with QUEUE_FULL and its
immediate ones carried out after that reply (R186). -/
def State.takeCommands (s : State) (cs : List Command) : State :=
  let queued := cs.filter fun c => !immediateCode c.code
  match queued with
  | [] => cs.foldl State.takeCommand s
  | first :: _ =>
    if s.mgmt.queue.length + queued.length ≤ Config.queueEntries then cs.foldl State.takeCommand s
    else
      (cs.filter fun c => immediateCode c.code).foldl State.immediate
        (s.offerReply ⟨first.tag, first.code, some .queueFull, twoBytes queued.length⟩ .nothing)

/-- A management payload taken: cut into commands, or refused whole with MALFORMED and tag 0 (R186). -/
def State.takePayload (s : State) (payload : List Byte) : State :=
  match commandsOf payload with
  | none => s.offerReply ⟨0, 0, some .malformed, []⟩ .nothing
  | some cs => s.takeCommands cs

/-- The arrival of the last byte of a management frame in hand at U (R186, R157). -/
def managementArrival (b : FrameBody) (s : State) : State :=
  match upArrival (fun a => a == 0) b s with
  | .absent => s
  | .damaged => s.setUport UpPort.damaged
  | .taken _ => s.finishUp.takePayload b.payload

/-- MANAGEMENT_FRAME (R186). -/
def execManagementFrame (b : FrameBody) (s : State) : Result := .next (managementArrival b s)

/-- READ_STATUS: a management frame that carries that command alone (R189; DEDUCED, assumption 11). -/
def execReadStatus (b : FrameBody) (s : State) : Result :=
  .next (if oneCommand 0x1E b.payload then managementArrival b s else s)

/-- RESUME: a management frame that carries that command alone (R189). -/
def execResume (b : FrameBody) (s : State) : Result :=
  .next (if oneCommand 0x1F b.payload then managementArrival b s else s)

/-- FLUSH: a management frame that carries that command alone (R189). -/
def execFlush (b : FrameBody) (s : State) : Result :=
  .next (if oneCommand 0x20 b.payload then managementArrival b s else s)

/-! ## FENCE (R187) -/

/-- An ACTIVATE's reply waits for a slot. -/
def WaitItem.isActivate : WaitItem → Bool
  | .reply _ .activate => true
  | _ => false

/-- Every command before a FENCE is complete: no activation is pending and no ACTIVATE's reply waits (R187;
DEDUCED, assumption 14). A command that RESUME or FLUSH discarded, and whose DISCARDED reply waits, holds no FENCE back,
and neither does an immediate command whose reply waits (DEDUCED, assumption 36). -/
def State.fenceReady (s : State) : Bool := s.store.activation.isNone && !s.links.waits.any WaitItem.isActivate

/-- FENCE (R187): it completes as it is taken, or waits at the head. -/
def execFence (s : State) : Result :=
  .next (match s.headOperand 0x19 readNotify with
    | none => s
    | some (c, notify) =>
      if s.fenceReady then s.offerReply ⟨c.tag, c.code, none, []⟩ (.fence notify)
      else s.setMgmt { s.mgmt with phase := .fenceWaiting })

/-- FENCE_COMPLETE (R187): the waiting FENCE completes once every earlier command has. -/
def execFenceComplete (s : State) : Result :=
  .next (match s.mgmt.phase, s.mgmt.queue with
    | .fenceWaiting, c :: _ =>
      match readNotify c.params with
      | some notify =>
        if s.fenceReady then
          (s.setMgmt { s.mgmt with phase := .fresh }).offerReply ⟨c.tag, c.code, none, []⟩ (.fence notify)
        else s
      | none => s
    | _, _ => s)

/-! ## OPENING, SET_TIME, FAULT_CLEAR -/

/-- R27. -/
def opening (T : Tables) (l : DeclaredList) (bk : Books) : Except Reason (Books × List Byte) :=
  if !bk.pos.allZero then .error .badState
  else if !T.currenciesEnabled l then .error .currencyDisabled
  else match bk.move (openingMove (storedList l)) with
    | .error r => .error r
    | .ok bk' => .ok (bk', [])

/-- OPENING (R27). -/
def execOpening (s : State) : Result :=
  .next (queuedBooks 0x01 readDeclared (fun l s => opening s.activeTables l s.books) s)

/-- R190. -/
def setTime (t : Nat) (s : State) : Except Reason (State × List Byte) :=
  .ok ({ s with clock := ⟨t, false⟩ }, fourBytes s.clock.tod ++ flagByte s.clock.unset)

/-- SET_TIME (R190). -/
def execSetTime (s : State) : Result := .next (queued 0x1A readTimeOfDay setTime s)

/-- The recorder after a FAULT_CLEAR (R175). -/
def Recorder.clear (r : Recorder) (q : FaultClear) : Recorder :=
  { r with
    records := r.records.mapIx fun i f => if q.records.getLsbD i.val then none else f
    overflow := r.overflow && !q.overflow }

/-- R175. -/
def faultClear (q : FaultClear) (s : State) : Except Reason (State × List Byte) :=
  let r := s.recorder.clear q
  .ok ({ s with recorder := r },
    twoBytes (s.recorder.setCount - r.setCount) ++ flagByte s.recorder.overflow ++ twoBytes r.setCount)

/-- FAULT_CLEAR (R175). -/
def execFaultClear (s : State) : Result := .next (queued 0x14 readFaultClear faultClear s)

/-! ## Notices (R191, R192) -/

/-- A class's waiting notice withdrawn from the waiting list. -/
def State.withdraw (s : State) (c : Fin 8) : State :=
  { s with links := { s.links with waits := s.links.waits.filter fun w => w != .notice c } }

/-- A class disabled: its enable falls, its waiting notice is withdrawn, its pending flag stays (R191, R192). -/
def State.disableClass (s : State) (c : Fin 8) : State :=
  (s.withdraw c).setNotice c fun n => { n with enabled := false }

/-- A class enabled. -/
def State.enableClass (s : State) (c : Fin 8) : State := s.setNotice c fun n => { n with enabled := true }

/-- The classes of a set, in class order. -/
def classesOf (m : BitVec 8) : List (Fin 8) := (List.finRange 8).filter fun c => m.getLsbD c.val

/-- R192: disables, then enables, then the notices of the newly enabled classes with pending set (the order is
DEDUCED, assumption 28). -/
def noticeEnable (q : NoticeEnable) (s : State) : Except Reason (State × List Byte) :=
  let newly := (classesOf q.enable).filter fun c => !(s.notices.get c).enabled && (s.notices.get c).pending
  let s := (classesOf q.disable).foldl State.disableClass s
  let s := (classesOf q.enable).foldl State.enableClass s
  let s := newly.foldl State.offerNotice s
  .ok (s, s.classFlags)

/-- NOTICE_ENABLE (R192). -/
def execNoticeEnable (s : State) : Result := .next (queued 0x1B readNoticeEnable noticeEnable s)

/-- R192: the class's sources replied, and they, its pending flag and its waiting notice cleared. -/
def readSources (c : Fin 8) (s : State) : Except Reason (State × List Byte) :=
  .ok ((s.withdraw c).setNotice c fun n => { n with sources := Quad.const false, pending := false },
    [(s.notices.get c).sourceByte])

/-- READ_SOURCES (R192). -/
def execReadSources (s : State) : Result := .next (queued 0x1C (readIndex 8) readSources s)

/-! ## SOFT_RESET (R193) -/

/-- The records of chapters 2 to 7 at a soft reset under the ACTIVE bank: every position is kept (R22, R53, R76, R99,
R122, R149). -/
def Books.softReset (T : Tables) (bk : Books) : Books :=
  let window := T.timing.carryTransfer
  let bk : Books := { bk with
    deposits := bk.deposits.map fun d => d.map fun d => d.softReset window
    tills := bk.tills.map Till.softReset
    safes := bk.safes.map Safe.softReset
    transfers := bk.transfers.map fun t => t.map fun t => t.softReset window
    lanes := bk.lanes.map fun _ => Lane.idle }
  dockSoftReset T 1 (dockSoftReset T 0 bk)

/-- A segment port at a soft reset: its queue is emptied, it stops waiting and loses a granted slot; its link, its frame
in hand and its error count stay (R150, R151, R153, R155). -/
def SegPort.softReset (g : SegPort) (bank : Fin 2) : SegPort :=
  { g with queue := [], waiting := false, granted := false, bank := bank }

/-- The ports and the uplink queue at a soft reset; `bank` gives each port's bank after it (R153, R155, R156, R185). -/
def Links.softReset (l : Links) (bank : Fin 2 → Fin 2) : Links :=
  { l with
    segs := l.segs.map fun g => g.softReset (bank g.bank)
    uport := { l.uport with bank := bank l.uport.bank }
    uplink := []
    waits := []
    pointer := 0 }

/-- A port's bank at a soft reset: with an activation pending every port goes back to the ACTIVE bank (R185). -/
def TableStore.resetBank (t : TableStore) (b : Fin 2) : Fin 2 := if t.activation.isSome then t.active else b

/-- A notice class at a soft reset: the enable is kept (R193). -/
def NoticeClass.softReset (n : NoticeClass) : NoticeClass := ⟨Quad.const false, n.enabled, false⟩

/-- The state after the soft reset of every owner (R166, R193). -/
def State.softReset (s : State) : State :=
  { s with
    store := { s.store with activation := none }
    books := s.books.softReset s.activeTables
    links := s.links.softReset s.store.resetBank
    admission := s.admission.map fun _ => .absent
    mgmt := ⟨[], false, .fresh⟩
    notices := s.notices.map NoticeClass.softReset }

/-- SOFT_RESET (R193): its reply is the first frame of the emptied uplink queue (DEDUCED, assumption 25). It is taken also
while the reply of an ACTIVATE whose activation has completed still waits, and drops that reply (DESIGN CHOICE,
assumption 41). -/
def execSoftReset (s : State) : Result :=
  .next (match s.headOperand 0x1D readNothing with
    | none => s
    | some (c, _) => s.softReset.offerReply ⟨c.tag, c.code, none, []⟩ .nothing)

end Sys2Proof.Machine
end

