-- ==== Sys2Proof/Machine/Reads.lean ====
section
/-! DEFINITION. The commands that read the store's records: READ_POSITIONS, READ_DEPOSIT, READ_TILL, READ_SAFE, READ_LANE,
READ_DOCK and READ_FAULTS. Each changes nothing; its result block holds what its rule names, in that order, in the
encodings of section 8.6; where these leave the layout open it is DEDUCED (assumption 22). -/

namespace Sys2Proof.Machine
open Sys2Proof

/-- The records of a range in index order. -/
def eachOf {m : Nat} (r : Fin m × Nat) (f : Fin m → List Byte) : List Byte := ((rangeOf r).map f).flatten

/-! ## READ_POSITIONS (R36) -/

/-- The sum of a table of lists, per currency. -/
def sumTable {n : Nat} (t : Tab Amounts n) : Amounts := Quad.tabulate (columnSum t)

/-- A CENTRAL reply: each quantity for the four currencies. -/
def centralBytes (p : Positions) : List Byte :=
  listBytes p.reserve ++ listBytes p.suspect ++ listBytes p.uncounted ++ listBytes p.accountability
    ++ listBytes p.variance ++ listBytes (sumTable p.drawer) ++ listBytes (sumTable p.transit)
    ++ listBytes (sumTable p.loaded) ++ listBytes (Quad.tabulate p.held) ++ listBytes (Quad.tabulate p.accounted)

def readPositions (q : PositionsSel) (p : Positions) : List Byte :=
  match q with
  | .central => centralBytes p
  | .tills r => eachOf r fun t => listBytes (p.drawer.get t) ++ listBytes (p.transit.get t)
  | .consignments => (p.loaded.rows.map listBytes).flatten

/-- READ_POSITIONS (R36). -/
def execReadPositions (s : State) : Result :=
  .next (queuedRead 0x02 readPositionsSel (fun q s => .ok (readPositions q s.books.pos)) s)

/-! ## READ_DEPOSIT (R52) -/

/-- Every field of a record in the order of R37: its index and its state, then each other field, marked absent where it
is absent. -/
def depositBytes (i : Fin 512) (d : Option Deposit) : List Byte :=
  let opt {α : Type} (get : Deposit → Option α) (f : α → List Byte) : List Byte := maybeBytes f (d.bind get)
  twoBytes i.val
    ++ oneByte (match d with
      | some d => d.state.code
      | none => 0)
    ++ opt (·.outcome) (fun o => oneByte o.code)
    ++ opt (some ·.kind) (fun k => oneByte k.code)
    ++ opt (some ·.number) fourBytes
    ++ opt (some ·.source) Origin.bytes
    ++ opt (some ·.declared) listBytes
    ++ opt (some ·.base) amountBytes
    ++ opt (·.holder) Holder.bytes
    ++ opt (fun d => d.result.map CountResult.counted) listBytes
    ++ opt (fun d => d.result.map CountResult.suspect) listBytes
    ++ opt (fun d => d.result.map CountResult.verdict) (fun v => oneByte v.code)
    ++ opt (fun d => d.result.map CountResult.variance) amountBytes
    ++ opt (·.countingStaff) twoBytes
    ++ opt (·.releasingStaff) twoBytes
    ++ opt (some ·.created) fourBytes
    ++ opt (·.closed) fourBytes
    ++ opt (·.carry) twoBytes
    ++ opt (some ·.overdue) flagByte

/-- The number of records in use that pass. -/
def Books.countDeposits (bk : Books) (p : Deposit → Bool) : Nat := bk.deposits.count fun d => d.any p

/-- A SUMMARY reply. -/
def depositSummary (bk : Books) : List Byte :=
  let state (st : DepositState) : List Byte := twoBytes (bk.countDeposits fun d => d.state == st)
  let closed (o : CloseOutcome) : List Byte :=
    twoBytes (bk.countDeposits fun d => d.state == .closed && d.outcome == some o)
  twoBytes (bk.deposits.count fun d => d.isNone)
    ++ state .carried ++ state .inSafe ++ state .inTransfer ++ state .awaitingCount ++ state .counting
    ++ state .consigned ++ state .discrepant
    ++ closed .counted ++ closed .released ++ closed .departed
    ++ twoBytes (bk.countDeposits fun d => d.live && d.overdue)
    ++ maybeBytes (fun i => twoBytes i.val) bk.allocate

def readDeposit (q : DepositSel) (bk : Books) : Except Reason (List Byte) :=
  match q with
  | .index r => .ok (eachOf r fun i => depositBytes i (bk.deposits.get i))
  | .number n =>
    match bk.findLive n with
    | none => .error .unknownNumber
    | some i => .ok (depositBytes i (bk.deposits.get i))
  | .summary => .ok (depositSummary bk)

/-- READ_DEPOSIT (R52). -/
def execReadDeposit (s : State) : Result :=
  .next (queuedRead 0x04 readDepositSel (fun q s => readDeposit q s.books) s)

/-! ## READ_TILL (R75) -/

/-- One till of a READ_TILL reply. The pickup count is 2 bytes (DEDUCED, assumption 38). -/
def tillBytes (bk : Books) (t : Fin 160) : List Byte :=
  let r := bk.tills.get t
  oneByte r.state.code ++ listBytes (bk.pos.drawer.get t) ++ listBytes (bk.pos.transit.get t)
    ++ maybeBytes listBytes r.floatIssued ++ maybeBytes Timer.bytes r.timer ++ flagByte r.closeCalled
    ++ twoBytes r.pickups ++ maybeBytes fourBytes r.lastMove

def tillSummary (bk : Books) : List Byte :=
  let state (st : TillState) : List Byte := twoBytes (bk.tills.count fun r => r.state == st)
  state .closed ++ state .floatTransit ++ state .opened ++ state .pickupDue ++ state .pickupOverdue
    ++ twoBytes (bk.tills.count fun r => r.closeCalled)

def readTill (q : TillSel) (bk : Books) : List Byte :=
  match q with
  | .index r => eachOf r (tillBytes bk)
  | .summary => tillSummary bk

/-- READ_TILL (R75). -/
def execReadTill (s : State) : Result := .next (queuedRead 0x08 readTillSel (fun q s => .ok (readTill q s.books)) s)

/-! ## READ_SAFE (R98) -/

def depositIndexBytes (i : Fin 512) : List Byte := twoBytes i.val

/-- A bag position of a READ_SAFE reply. The pouch count is 2 bytes (DEDUCED, assumption 38). -/
def Bag.bytes (g : Bag) : List Byte :=
  oneByte g.state.code ++ twoBytes g.pouches.length ++ amountBytes g.value ++ listOf depositIndexBytes g.pouches

def Reservation.bytes (r : Reservation) : List Byte :=
  fourBytes r.number ++ depositIndexBytes r.deposit ++ oneByte r.side.code ++ twoBytes r.grant

def Safe.bytes (f : Safe) : List Byte :=
  oneByte f.state.code ++ f.bagA.bytes ++ f.bagB.bytes ++ maybeBytes Reservation.bytes f.reservation
    ++ flagByte f.overfill ++ flagByte f.collectionReady

def Transfer.bytes (t : Transfer) : List Byte :=
  fourBytes t.bag ++ oneByte t.safe.val ++ oneByte t.side.code ++ listOf depositIndexBytes t.deposits
    ++ amountBytes t.value ++ twoBytes t.staff ++ fourBytes t.timeOut ++ maybeBytes Timer.bytes t.timer
    ++ flagByte t.late

def readSafe (q : SafeSel) (bk : Books) : List Byte :=
  match q with
  | .safe r => eachOf r fun i => (bk.safes.get i).bytes
  | .transfer r => eachOf r fun i => maybeBytes Transfer.bytes (bk.transfers.get i)

/-- READ_SAFE (R98). -/
def execReadSafe (s : State) : Result := .next (queuedRead 0x09 readSafeSel (fun q s => .ok (readSafe q s.books)) s)

/-! ## READ_LANE (R121) -/

/-- The denominations with a non-zero count, with it, in index order. -/
def countsBytes (t : Tab Nat 32) : List Byte :=
  listOf (fun d : Fin 32 => oneByte d.val ++ piecesBytes (t.get d)) ((List.finRange 32).filter fun d => t.get d != 0)

def BundleEntry.bytes (e : BundleEntry) : List Byte :=
  oneByte e.kind.code ++ oneByte e.denom.val ++ piecesBytes e.count

/-- One lane of a READ_LANE reply. The number of entries in the open bundle and the 2-byte count that section 8.6 puts
before a list are one field (DEDUCED, assumption 33). -/
def laneBytes (bk : Books) (i : Fin 6) : List Byte :=
  let l := bk.lanes.get i
  oneByte l.code
    ++ maybeBytes (fun ss : Session => twoBytes ss.deposit.val
      ++ fourBytes (match bk.deposits.get ss.deposit with
        | some d => d.number
        | none => 0)) l.session
    ++ maybeBytes (fun ss : Session => twoBytes ss.staff) l.session
    ++ countsBytes l.counts ++ countsBytes l.suspects ++ listOf BundleEntry.bytes l.bundle
    ++ maybeBytes (fun ss : Session => ss.idle.bytes) l.session

/-- READ_LANE (R121). -/
def execReadLane (s : State) : Result := .next (queuedRead 0x0A readLaneRange (fun r s => .ok (eachOf r (laneBytes s.books))) s)

/-! ## READ_DOCK (R148) -/

/-- One dock of a READ_DOCK HANDOVER reply. The consecutive lockout count, 0 to 7, is 1 byte (DEDUCED, assumption 39). The
three lists carry no presence flag, and in a state that holds none of them each is sent with a count of 0 (DESIGN CHOICE,
assumption 40). -/
def handoverBytes (h : Handover) : List Byte :=
  oneByte h.state.code
    ++ maybeBytes (fun v : Visit => oneByte v.station.toNat ++ oneByte v.segment.val ++ twoBytes v.courier) h.visit
    ++ maybeBytes (fun q : Qualification => fourBytes q.start) h.qualify
    ++ maybeBytes (fun q : Qualification => twoBytes q.qual) h.qualify
    ++ maybeBytes (fun q : Qualification => twoBytes q.gap) h.qualify
    ++ maybeBytes twoBytes h.pairing ++ maybeBytes twoBytes h.limit ++ maybeBytes twoBytes h.lockout
    ++ listOf twoBytes h.holders ++ listOf (fun k : Fin 8 => oneByte k.val) h.atDock
    ++ listOf depositIndexBytes h.deliveries ++ oneByte h.lockouts

def lineBytes (bk : Books) (l : ConsignLine) : List Byte :=
  (match l.item with
    | .bag n src a => oneByte 0 ++ fourBytes n ++ oneByte src.code ++ listBytes a
    | .deposit i => oneByte 1 ++ fourBytes (bk.itemNumber (.deposit i)) ++ twoBytes i.val)
  ++ flagByte l.scanned

def consignmentBytes (bk : Books) (k : Fin 8) : List Byte :=
  let c := bk.consigns.get k
  oneByte c.state.code ++ maybeBytes (fun d : Fin 2 => oneByte d.val) c.dock ++ listOf (lineBytes bk) c.items
    ++ listBytes (bk.pos.loaded.get k)

def readDock (q : DockSel) (bk : Books) : List Byte :=
  match q with
  | .handover r => eachOf r fun d => handoverBytes (bk.docks.get d)
  | .consignment r => eachOf r (consignmentBytes bk)

/-- READ_DOCK (R148). -/
def execReadDock (s : State) : Result := .next (queuedRead 0x13 readDockSel (fun q s => .ok (readDock q s.books)) s)

/-! ## READ_FAULTS (R176) -/

/-- The fields of a set record after its F flag (R171). The collapse count, 0 to 255, is 1 byte (DEDUCED, assumption
34). -/
def FaultRecord.bytes (f : FaultRecord) : List Byte :=
  oneByte f.station.toNat ++ oneByte (portCode f.segment) ++ [f.kind] ++ oneByte f.reason.code ++ fourBytes f.time
    ++ oneByte f.collapse

def Recorder.bytes (r : Recorder) : List Byte :=
  (r.records.rows.map (maybeBytes FaultRecord.bytes)).flatten ++ flagByte r.overflow
    ++ maybeBytes (fun i : Fin 8 => oneByte i.val) r.first ++ twoBytes r.setCount

/-- READ_FAULTS (R176). -/
def execReadFaults (s : State) : Result := .next (queuedRead 0x15 readNothing (fun _ s => .ok s.recorder.bytes) s)

end Sys2Proof.Machine
end

