-- ==== Sys2Proof/Machine/SafeUnit.lean ====
section
/-! DEFINITION. The commands of the Safe Unit (chapter 5): drops, bags, received pouches, and its timers. -/

namespace Sys2Proof.Machine
open Sys2Proof

/-- DROP_REQUEST (R81). -/
def execDropRequest (p : Fin 4) (b : FrameBody) (s : State) : Result :=
  .next (bookFrame .dropRequest readContainerNumber dropRequest p b s)

/-- DROP_DONE (R83, R84, R86). -/
def execDropDone (p : Fin 4) (b : FrameBody) (s : State) : Result :=
  .next (bookFrame .dropDone readContainerNumber dropDone p b s)

/-- DROP_CANCEL (R85). -/
def execDropCancel (p : Fin 4) (b : FrameBody) (s : State) : Result :=
  .next (bookFrame .dropCancel readContainerNumber dropCancel p b s)

/-- GRANT_TIMER_EXPIRY (R85). -/
def execGrantTimerExpiry (f : Fin 16) (s : State) : Result := .next (bookExpiry (grantExpiry f) s)

/-- BAG_OUT (R90, R91). -/
def execBagOut (p : Fin 4) (b : FrameBody) (s : State) : Result := .next (bookFrame .bagOut readBagOut bagOut p b s)

/-- TRANSFER_TIMER_EXPIRY (R94). -/
def execTransferTimerExpiry (x : Fin 32) (s : State) : Result := .next (bookExpiry (transferExpiry x) s)

/-- BAG_IN (R95). -/
def execBagIn (p : Fin 4) (b : FrameBody) (s : State) : Result := .next (bookFrame .bagIn readReceived bagIn p b s)

/-- POUCH_IN (R96). -/
def execPouchIn (p : Fin 4) (b : FrameBody) (s : State) : Result := .next (bookFrame .pouchIn readReceived pouchIn p b s)

end Sys2Proof.Machine
end

