-- ==== Sys2Proof/Machine/TableUnit.lean ====
section
/-! DEFINITION. The commands of the Table Store (chapter 10): entries written with their fields clamped, entries read,
and the taking of an ACTIVATE. -/

namespace Sys2Proof.Machine
open Sys2Proof

/-! ## Clamping (R181) -/

/-- The number held in a range. -/
def clampTo (lo hi v : Nat) : Nat := min (max v lo) hi

/-- 1 where a field is held at a value other than the one written. -/
def changed (held written : Nat) : Nat := if held = written then 0 else 1

/-- The code a two-valued enumerated field is held at: a code that names no value is held as the power-on value, whose code
is 0 (R181). -/
def enumHeld (code : Nat) : Nat := if code = 1 then 1 else 0

/-- The number of a field of an entry: `n` bytes at an offset. -/
def field (bs : List Byte) (off n : Nat) : Nat := beValue ((bs.drop off).take n)

/-- A flag field of an entry. -/
def flagField (bs : List Byte) (off : Nat) : Bool := field bs off 1 != 0

/-- A Station entry and the fields clamped, at an address (R161, R181). -/
def writeStation (a : Nat) (bs : List Byte) : Station × Nat :=
  let code := field bs 0 1
  let unit := field bs 3 1
  let param := field bs 4 1
  let role : Role := match code with
    | 1 => .till (Fin.ofNat 160 (min unit 159)) (Fin.ofNat 8 (min param 7))
    | 2 => .safe (Fin.ofNat 16 (min unit 15))
    | 3 => .counter (Fin.ofNat 6 (min unit 5))
    | 4 => .receiving
    | 5 => .supervisor
    | 6 => .dock (Fin.ofNat 2 (min unit 1))
    | _ => .none
  let segment := min (field bs 1 1) 3
  let domain := min (field bs 2 1) 7
  let heldRole := if a = 0 ∨ a = 255 then 0 else role.code
  (⟨role, Fin.ofNat 4 segment, Fin.ofNat 8 domain, flagField bs 5⟩,
    changed heldRole code + changed segment (field bs 1 1) + changed domain (field bs 2 1)
      + changed role.unit unit + changed role.param param)

/-- The calibration fields are clamped only in a COIN entry with calibration present (R181). -/
def writeDenom (bs : List Byte) : Denom × Nat :=
  let currency := min (field bs 1 1) 3
  let face := clampTo 1 1000000 (field bs 2 4)
  let form : Form := if field bs 6 1 = 1 then .coin else .note
  let present := flagField bs 7
  let calibrated := form = .coin ∧ present
  let z := if calibrated then min (field bs 8 4) Config.maxReading else field bs 8 4
  let w := if calibrated then min (field bs 12 4) Config.maxReading else field bs 12 4
  let n := if calibrated then clampTo 1 10000 (field bs 16 2) else field bs 16 2
  (⟨flagField bs 0, Fin.ofNat 4 currency, face, form, present, z, w, n⟩,
    changed currency (field bs 1 1) + changed face (field bs 2 4) + changed (enumHeld (field bs 6 1)) (field bs 6 1)
      + changed z (field bs 8 4) + changed w (field bs 12 4) + changed n (field bs 16 2))

def writeRate (bs : List Byte) : Rate × Nat :=
  let r := clampTo 1 99999999 (field bs 1 4)
  (⟨flagField bs 0, r⟩, changed r (field bs 1 4))

/-- A base amount of a table entry, 0 to AMAX. -/
def baseField (bs : List Byte) (off : Nat) : Nat := min (field bs off 8) Config.amax.toNat

def writeTillClass (bs : List Byte) : TillClass × Nat :=
  let limit := baseField bs 0
  let window := clampTo 1 240 (field bs 8 2)
  (⟨limit, window, if field bs 10 1 = 1 then .refuseCash else .flag⟩,
    changed limit (field bs 0 8) + changed window (field bs 8 2) + changed (enumHeld (field bs 10 1)) (field bs 10 1))

def writeSafe (bs : List Byte) : SafeEntry × Nat :=
  let threshold := clampTo 1 39 (field bs 0 1)
  let limit := baseField bs 1
  (⟨threshold, limit, if field bs 9 1 = 1 then .overfill else .stop⟩,
    changed threshold (field bs 0 1) + changed limit (field bs 1 8) + changed (enumHeld (field bs 9 1)) (field bs 9 1))

def writeDomain (bs : List Byte) : DomainEntry × Nat :=
  let tabs := min (field bs 0 4) 1000000
  let tppt := min (field bs 4 2) 500
  (⟨tabs, tppt⟩, changed tabs (field bs 0 4) + changed tppt (field bs 4 2))

/-- Staff fields are never clamped; flag bits 7 to 3 are not used (section 8.6). -/
def writeStaff (bs : List Byte) : StaffEntry × Nat :=
  let flags := BitVec.ofNat 8 (field bs 3 1)
  (⟨field bs 0 2, BitVec.ofNat 8 (field bs 2 1), flags.getLsbD 0, flags.getLsbD 1, flags.getLsbD 2⟩, 0)

def writeCourier (bs : List Byte) : CourierEntry × Nat := (⟨field bs 0 2, flagField bs 2⟩, 0)

def writeSchedule (bs : List Byte) : ScheduleEntry × Nat :=
  let start := min (field bs 1 4) 86399
  let stop := min (field bs 5 4) 86399
  (⟨flagField bs 0, start, stop⟩, changed start (field bs 1 4) + changed stop (field bs 5 4))

def writeDockMode (bs : List Byte) : DockMode × Nat :=
  (if field bs 0 1 = 1 then .manual else .auto, changed (enumHeld (field bs 0 1)) (field bs 0 1))

/-- The Timing entry's ranges are R179's. -/
def writeTiming (bs : List Byte) : Timing × Nat :=
  let grant := clampTo 5 120 (field bs 0 1)
  let carry := clampTo 1 120 (field bs 1 1)
  let idle := clampTo 1 60 (field bs 2 1)
  let admission := clampTo 1 10 (field bs 3 1)
  let gap := clampTo 1 10 (field bs 4 1)
  let arrival := clampTo 1 30 (field bs 5 1)
  let departure := clampTo 1 30 (field bs 6 1)
  let pairing := clampTo 10 300 (field bs 7 2)
  let lockout := clampTo 10 900 (field bs 9 2)
  let limit := clampTo 1 7 (field bs 11 1)
  let handover := clampTo 5 120 (field bs 12 1)
  (⟨grant, carry, idle, admission, gap, arrival, departure, pairing, lockout, limit, handover⟩,
    changed grant (field bs 0 1) + changed carry (field bs 1 1) + changed idle (field bs 2 1)
      + changed admission (field bs 3 1) + changed gap (field bs 4 1) + changed arrival (field bs 5 1)
      + changed departure (field bs 6 1) + changed pairing (field bs 7 2) + changed lockout (field bs 9 2)
      + changed limit (field bs 11 1) + changed handover (field bs 12 1))

/-! ## Writing and reading entries -/

/-- One entry of a table written at an index within it, and the number of fields clamped (R180, R181). -/
def writeEntry (t : TableName) (i : Nat) (bs : List Byte) (T : Tables) : Tables × Nat :=
  match t with
  | .station => ({ T with stations := T.stations.set (Fin.ofNat 256 i) (writeStation i bs).1 }, (writeStation i bs).2)
  | .denom => ({ T with denoms := T.denoms.set (Fin.ofNat 32 i) (writeDenom bs).1 }, (writeDenom bs).2)
  | .rate => ({ T with rates := T.rates.set (Fin.ofNat 4 i) (writeRate bs).1 }, (writeRate bs).2)
  | .tillClass =>
    ({ T with tillClasses := T.tillClasses.set (Fin.ofNat 8 i) (writeTillClass bs).1 }, (writeTillClass bs).2)
  | .safe => ({ T with safes := T.safes.set (Fin.ofNat 16 i) (writeSafe bs).1 }, (writeSafe bs).2)
  | .domain => ({ T with domains := T.domains.set (Fin.ofNat 8 i) (writeDomain bs).1 }, (writeDomain bs).2)
  | .staff => ({ T with staff := T.staff.set (Fin.ofNat 64 i) (writeStaff bs).1 }, (writeStaff bs).2)
  | .courier => ({ T with couriers := T.couriers.set (Fin.ofNat 32 i) (writeCourier bs).1 }, (writeCourier bs).2)
  | .schedule => ({ T with schedule := T.schedule.set (Fin.ofNat 16 i) (writeSchedule bs).1 }, (writeSchedule bs).2)
  | .dockCfg => ({ T with dockModes := T.dockModes.set (Fin.ofNat 2 i) (writeDockMode bs).1 }, (writeDockMode bs).2)
  | .timing => ({ T with timing := (writeTiming bs).1 }, (writeTiming bs).2)

/-- The entries of a content written at the indices given, in order (R180). -/
def writeEntries (t : TableName) : List Nat → List Byte → Tables → Tables × Nat
  | [], _, T => (T, 0)
  | i :: is, bs, T =>
    let (T', n) := writeEntry t i (bs.take t.entrySize) T
    let (T'', m) := writeEntries t is (bs.drop t.entrySize) T'
    (T'', n + m)

/-- One entry of a table as a TABLE_READ gives it (R182, section 8.6). -/
def entryBytes (t : TableName) (i : Nat) (T : Tables) : List Byte :=
  match t with
  | .station =>
    let e := T.stations.get (Fin.ofNat 256 i)
    oneByte (T.station (BitVec.ofNat 8 i)).role.code ++ oneByte e.segment.val ++ oneByte e.domain.val
      ++ oneByte e.role.unit ++ oneByte e.role.param ++ flagByte e.pass
  | .denom =>
    let e := T.denoms.get (Fin.ofNat 32 i)
    flagByte e.valid ++ oneByte e.currency.val ++ fourBytes e.face ++ oneByte (if e.form = .coin then 1 else 0)
      ++ flagByte e.calibrated ++ fourBytes e.zeroRead ++ fourBytes e.refRead ++ twoBytes e.refCount
  | .rate =>
    let e := T.rate (Fin.ofNat 4 i)
    flagByte e.enabled ++ fourBytes e.rate
  | .tillClass =>
    let e := T.tillClasses.get (Fin.ofNat 8 i)
    amountBytes e.limit ++ twoBytes e.window ++ oneByte (if e.action = .refuseCash then 1 else 0)
  | .safe =>
    let e := T.safes.get (Fin.ofNat 16 i)
    oneByte e.threshold ++ amountBytes e.valueLimit ++ oneByte (if e.policy = .overfill then 1 else 0)
  | .domain =>
    let e := T.domains.get (Fin.ofNat 8 i)
    fourBytes e.tabs ++ twoBytes e.tppt
  | .staff =>
    let e := T.staff.get (Fin.ofNat 64 i)
    twoBytes e.id ++ oneByte e.domains.toNat
      ++ oneByte (e.keyHolder.toNat + 2 * e.supervisor.toNat + 4 * e.counter.toNat)
  | .courier =>
    let e := T.couriers.get (Fin.ofNat 32 i)
    twoBytes e.id ++ flagByte e.valid
  | .schedule =>
    let e := T.schedule.get (Fin.ofNat 16 i)
    flagByte e.used ++ fourBytes e.start ++ fourBytes e.stop
  | .dockCfg => oneByte (if T.dockModes.get (Fin.ofNat 2 i) = .manual then 1 else 0)
  | .timing =>
    let e := T.timing
    oneByte e.dropGrant ++ oneByte e.carryTransfer ++ oneByte e.sessionIdle ++ oneByte e.admission
      ++ oneByte e.beaconGap ++ oneByte e.arrivalQual ++ oneByte e.departureQual ++ twoBytes e.pairing
      ++ twoBytes e.lockout ++ oneByte e.lockoutLimit ++ oneByte e.handoverLimit

/-- A bank's tables replaced. -/
def TableStore.setBank (t : TableStore) (b : Fin 2) (T : Tables) : TableStore :=
  if b = 0 then { t with bank0 := T } else { t with bank1 := T }

/-- Steps 2 to 4 of R180. The number of fields clamped is 2 bytes, as the number of entries written is (DEDUCED,
assumption 35). -/
def tableWrite (q : TableWrite) (s : State) : Except Reason (State × List Byte) :=
  if s.store.activation.isSome then .error .activationPending
  else if q.range.beyond ∨ (q.range.table = .rate ∧ 0 ∈ q.range.indices) then .error .tableRange
  else
    let b := s.store.staged
    let (T, n) := writeEntries q.range.table q.range.indices q.content (s.store.bank b)
    .ok ({ s with store := s.store.setBank b T }, twoBytes q.range.count ++ twoBytes n)

/-- TABLE_WRITE (R180). -/
def execTableWrite (s : State) : Result := .next (queued 0x16 readTableWrite tableWrite s)

/-- R182. -/
def tableRead (q : TableRead) (s : State) : Except Reason (List Byte) :=
  let b := if q.staged then s.store.staged else s.store.active
  if q.range.beyond then .error .tableRange
  else .ok (oneByte b.val ++ (q.range.indices.map fun i => entryBytes q.range.table i (s.store.bank b)).flatten)

/-- TABLE_READ (R182). -/
def execTableRead (s : State) : Result := .next (queuedRead 0x17 readTableRead tableRead s)

/-- Every port that stands at a frame boundary changes at once (R183). -/
def State.switchAll (s : State) : State :=
  (allPorts.foldl (fun s p => if s.switchDue p then s.setPortBank p s.store.staged else s) s).completeIfLast

/-- ACTIVATE (R183): refused while an activation is pending; otherwise it leaves the head without a reply, and each port
at a frame boundary changes bank. -/
def execActivate (s : State) : Result :=
  .next (match s.headOperand 0x18 readNothing with
    | none => s
    | some (c, _) =>
      if s.store.activation.isSome then s.replyTo c (some .activationPending) []
      else
        let s := s.popHead
        { s with store := { s.store with activation := some c.tag } }.switchAll)

end Sys2Proof.Machine
end

