-- ==== Sys2Proof/Machine/TillBook.lean ====
section
/-! DEFINITION. The commands of the Till Book (chapter 4): till frames, the pickup timer, floats, the close call. -/

namespace Sys2Proof.Machine
open Sys2Proof

/-- TILL_OPEN (R60). -/
def execTillOpen (p : Fin 4) (b : FrameBody) (s : State) : Result := .next (bookFrame .tillOpen readDeclared tillOpen p b s)

/-- TILL_TENDER (R62, R63). -/
def execTillTender (p : Fin 4) (b : FrameBody) (s : State) : Result :=
  .next (bookFrame .tillTender readTender tillTender p b s)

/-- TILL_PAIDOUT (R64). -/
def execTillPaidout (p : Fin 4) (b : FrameBody) (s : State) : Result :=
  .next (bookFrame .tillPaidout readPaidOut tillPaidout p b s)

/-- TILL_PICKUP (R65). -/
def execTillPickup (p : Fin 4) (b : FrameBody) (s : State) : Result :=
  .next (bookFrame .tillPickup readContainer tillPickup p b s)

/-- TILL_CLOSE (R66). -/
def execTillClose (p : Fin 4) (b : FrameBody) (s : State) : Result :=
  .next (bookFrame .tillClose readContainer tillClose p b s)

/-- PICKUP_TIMER_EXPIRY (R70). -/
def execPickupTimerExpiry (t : Fin 160) (s : State) : Result := .next (bookExpiry (pickupExpiry t) s)

/-- FLOAT_ISSUE (R58). -/
def execFloatIssue (s : State) : Result :=
  .next (queuedBooks 0x05 readFloatIssue (fun f s => floatIssue s.activeTables s.clock.tod f s.books) s)

/-- FLOAT_RECALL (R59). -/
def execFloatRecall (s : State) : Result :=
  .next (queuedBooks 0x06 (readIndex 160) (fun t s => floatRecall s.clock.tod t s.books) s)

/-- The CLOSE_CALL frames for one till's matching stations, each placed if its station is ADMITTED and its segment's
queue has a free slot; `n` counts those placed (R74). A DOWN port discards what it is offered and counts none
(DEDUCED, assumption 24). -/
def sendCloseCalls (t : Fin 160) (T : Tables) (as : List Byte) (sn : State × Nat) : State × Nat :=
  as.foldl (fun (s, n) a =>
    let i := (T.station a).segment
    if s.admitted a ∧ s.segSlotFree i ∧ (s.links.segs.get i).up then
      (s.offerSeg i ⟨a, 0, kindCloseCall, oneByte t.val⟩, n + 1)
    else (s, n)) sn

/-- The whole of a CLOSE_CALL (R74): the flags set, the frames queued, and the two counts it replies, the number of frames in
2 bytes too (DEDUCED, assumption 38). -/
def closeCallAct (f : CloseCall) (s : State) : State × List Byte :=
  let T := s.activeTables
  let ts := f.tills T s.books
  let s' : State := { s with books := callTills ts s.books }
  let (s'', n) := ts.foldl (fun sn t => sendCloseCalls t T (f.stations T t) sn) (s', 0)
  (s'', twoBytes ts.length ++ twoBytes n)

/-- CLOSE_CALL (R74). -/
def execCloseCall (s : State) : Result := .next (queued 0x07 readCloseCall (fun f s => .ok (closeCallAct f s)) s)

end Sys2Proof.Machine
end

