-- ==== Sys2Proof/Machine/Dispatch.lean ====
section
/-! DEFINITION. One arm per command: its meaning. -/

namespace Sys2Proof.Machine
open Sys2Proof

/-- A command's effect on everything but the queue of waiting commands. -/
def exec (i : Instr) (s : State) : Host.Outcome State Fault Refusal :=
  match i with
  | .powerOnReset => Sys2Proof.Machine.execPowerOnReset s
  | .timeOfDayTick => Sys2Proof.Machine.execTimeOfDayTick s
  | .linkUp p => Sys2Proof.Machine.execLinkUp p s
  | .linkDown p => Sys2Proof.Machine.execLinkDown p s
  | .segmentFrameHeader p h => Sys2Proof.Machine.execSegmentFrameHeader p h s
  | .uplinkFrameHeader h => Sys2Proof.Machine.execUplinkFrameHeader h s
  | .receiveCheckFail p b => Sys2Proof.Machine.execReceiveCheckFail p b s
  | .passFrame p b => Sys2Proof.Machine.execPassFrame p b s
  | .announce p b => Sys2Proof.Machine.execAnnounce p b s
  | .ready p b => Sys2Proof.Machine.execReady p b s
  | .admissionTimerExpiry a => Sys2Proof.Machine.execAdmissionTimerExpiry a s
  | .tillOpen p b => Sys2Proof.Machine.execTillOpen p b s
  | .tillTender p b => Sys2Proof.Machine.execTillTender p b s
  | .tillPaidout p b => Sys2Proof.Machine.execTillPaidout p b s
  | .tillPickup p b => Sys2Proof.Machine.execTillPickup p b s
  | .tillClose p b => Sys2Proof.Machine.execTillClose p b s
  | .pickupTimerExpiry t => Sys2Proof.Machine.execPickupTimerExpiry t s
  | .carryTimerExpiry d => Sys2Proof.Machine.execCarryTimerExpiry d s
  | .dropRequest p b => Sys2Proof.Machine.execDropRequest p b s
  | .dropDone p b => Sys2Proof.Machine.execDropDone p b s
  | .dropCancel p b => Sys2Proof.Machine.execDropCancel p b s
  | .grantTimerExpiry f => Sys2Proof.Machine.execGrantTimerExpiry f s
  | .bagOut p b => Sys2Proof.Machine.execBagOut p b s
  | .transferTimerExpiry x => Sys2Proof.Machine.execTransferTimerExpiry x s
  | .bagIn p b => Sys2Proof.Machine.execBagIn p b s
  | .pouchIn p b => Sys2Proof.Machine.execPouchIn p b s
  | .countOpen p b => Sys2Proof.Machine.execCountOpen p b s
  | .countData p b => Sys2Proof.Machine.execCountData p b s
  | .countRecount p b => Sys2Proof.Machine.execCountRecount p b s
  | .countAbort p b => Sys2Proof.Machine.execCountAbort p b s
  | .idleTimerExpiry l => Sys2Proof.Machine.execIdleTimerExpiry l s
  | .countClose p b => Sys2Proof.Machine.execCountClose p b s
  | .release p b => Sys2Proof.Machine.execRelease p b s
  | .arriveBeacon p b => Sys2Proof.Machine.execArriveBeacon p b s
  | .arrivalQualificationExpiry d => Sys2Proof.Machine.execArrivalQualificationExpiry d s
  | .arrivalGapExpiry d => Sys2Proof.Machine.execArrivalGapExpiry d s
  | .custodyPresent p b => Sys2Proof.Machine.execCustodyPresent p b s
  | .pairingTimerExpiry d => Sys2Proof.Machine.execPairingTimerExpiry d s
  | .itemOut p b => Sys2Proof.Machine.execItemOut p b s
  | .itemIn p b => Sys2Proof.Machine.execItemIn p b s
  | .handoverEnd p b => Sys2Proof.Machine.execHandoverEnd p b s
  | .departBeacon p b => Sys2Proof.Machine.execDepartBeacon p b s
  | .departureQualificationExpiry d => Sys2Proof.Machine.execDepartureQualificationExpiry d s
  | .departureGapExpiry d => Sys2Proof.Machine.execDepartureGapExpiry d s
  | .handoverTimerExpiry d => Sys2Proof.Machine.execHandoverTimerExpiry d s
  | .lockoutTimerExpiry d => Sys2Proof.Machine.execLockoutTimerExpiry d s
  | .downstreamFrame b => Sys2Proof.Machine.execDownstreamFrame b s
  | .destination255Frame b => Sys2Proof.Machine.execDestination255Frame b s
  | .managementFrame b => Sys2Proof.Machine.execManagementFrame b s
  | .readStatus b => Sys2Proof.Machine.execReadStatus b s
  | .resume b => Sys2Proof.Machine.execResume b s
  | .flush b => Sys2Proof.Machine.execFlush b s
  | .queueStall => Sys2Proof.Machine.execQueueStall s
  | .opening => Sys2Proof.Machine.execOpening s
  | .readPositions => Sys2Proof.Machine.execReadPositions s
  | .purgeClosed => Sys2Proof.Machine.execPurgeClosed s
  | .readDeposit => Sys2Proof.Machine.execReadDeposit s
  | .floatIssue => Sys2Proof.Machine.execFloatIssue s
  | .floatRecall => Sys2Proof.Machine.execFloatRecall s
  | .closeCall => Sys2Proof.Machine.execCloseCall s
  | .readTill => Sys2Proof.Machine.execReadTill s
  | .readSafe => Sys2Proof.Machine.execReadSafe s
  | .readLane => Sys2Proof.Machine.execReadLane s
  | .consignCreate => Sys2Proof.Machine.execConsignCreate s
  | .consignLoad => Sys2Proof.Machine.execConsignLoad s
  | .consignAdd => Sys2Proof.Machine.execConsignAdd s
  | .consignRemove => Sys2Proof.Machine.execConsignRemove s
  | .consignReady => Sys2Proof.Machine.execConsignReady s
  | .consignCancel => Sys2Proof.Machine.execConsignCancel s
  | .openHandover => Sys2Proof.Machine.execOpenHandover s
  | .dockUnlock => Sys2Proof.Machine.execDockUnlock s
  | .readDock => Sys2Proof.Machine.execReadDock s
  | .faultClear => Sys2Proof.Machine.execFaultClear s
  | .readFaults => Sys2Proof.Machine.execReadFaults s
  | .tableWrite => Sys2Proof.Machine.execTableWrite s
  | .tableRead => Sys2Proof.Machine.execTableRead s
  | .activate => Sys2Proof.Machine.execActivate s
  | .portBankSwitch p => Sys2Proof.Machine.execPortBankSwitch p s
  | .fence => Sys2Proof.Machine.execFence s
  | .fenceComplete => Sys2Proof.Machine.execFenceComplete s
  | .setTime => Sys2Proof.Machine.execSetTime s
  | .noticeEnable => Sys2Proof.Machine.execNoticeEnable s
  | .readSources => Sys2Proof.Machine.execReadSources s
  | .softReset => Sys2Proof.Machine.execSoftReset s
  | .segmentFrameSent p => Sys2Proof.Machine.execSegmentFrameSent p s
  | .uplinkFrameSent => Sys2Proof.Machine.execUplinkFrameSent s
  | .waitingReplyPlaced => Sys2Proof.Machine.execWaitingReplyPlaced s
  | .commonSlotGrant => Sys2Proof.Machine.execCommonSlotGrant s
  | .outboundKindStationFrame p b => Sys2Proof.Machine.execOutboundKindStationFrame p b s

end Sys2Proof.Machine
end

