-- ==== Sys2Proof/Safety.lean ====
section
/-! DEFINITION. The terms the statements use: the laws of the manual that hold at every moment, the conditions under which
a frame or a command reaches its owner, and the state after an answer or a reply, written from the rules and not from the
operations that carry them out. -/

namespace Sys2Proof.Machine
open Sys2Proof

/-! ## Laws that hold at every moment -/

/-- The conservation law: held total and accounted total agree in every currency (R23). -/
def Positions.Conserved (p : Positions) : Prop := ∀ c : Fin 4, p.held c = p.accounted c

/-- An amounts list lies within 0 to AMAX. -/
def Amounts.InRange (l : Amounts) : Prop := ∀ c : Fin 4, 0 ≤ l.get c ∧ l.get c ≤ Config.amax

/-- Every amount of the Position Table lies in its range (R24). -/
def Positions.InRange (p : Positions) : Prop :=
  (∀ t, (p.drawer.get t).InRange) ∧ (∀ t, (p.transit.get t).InRange) ∧ p.reserve.InRange ∧ p.suspect.InRange
    ∧ (∀ k, (p.loaded.get k).InRange) ∧ p.uncounted.InRange ∧ p.accountability.InRange
    ∧ ∀ c, -Config.amax ≤ p.variance.get c ∧ p.variance.get c ≤ Config.amax

/-- No queue holds more than its slots: frames held and reserved in each segment queue (R153), common slots in use
(R154), frames on the uplink queue (R154), commands in the management queue (R186). -/
def State.QueuesBounded (s : State) : Prop :=
  (∀ p, (s.links.segs.get p).queue.length + s.segReserved p ≤ 16) ∧ s.commonInUse ≤ 56
    ∧ s.links.uplink.length ≤ 64 ∧ s.mgmt.queue.length ≤ 32

/-- No two set fault records name one station (R173). -/
def Recorder.OneEach (r : Recorder) : Prop :=
  ∀ i j f g, r.records.get i = some f → r.records.get j = some g → f.station = g.station → i = j

/-- The law of one safe: its positions by its state, no pouch in an EMPTY position and at least one in a FULL one, the
reservation on the ACTIVE position, and at most 40 pouches in a bag, an open reservation counted (R78). -/
def Safe.Lawful (f : Safe) : Prop :=
  (f.state = .running →
    (f.bagA.state = .active ∧ f.bagB.state ≠ .active) ∨ (f.bagB.state = .active ∧ f.bagA.state ≠ .active))
  ∧ (f.state = .stopped → f.bagA.state = .full ∧ f.bagB.state = .full ∧ f.reservation = none)
  ∧ (∀ side, (f.bag side).state = .empty → (f.bag side).pouches = [])
  ∧ (∀ side, (f.bag side).state = .full → (f.bag side).pouches ≠ [])
  ∧ (∀ r, f.reservation = some r → (f.bag r.side).state = .active)
  ∧ ∀ side, (f.bag side).pouches.length + (f.reservation.any fun r => r.side == side).toNat ≤ 40

/-- The law of one till: what its state says of its drawer, its float in transit, its timer, its float issued list and
its close-called flag (R55). -/
def Till.Lawful (r : Till) (drawer transit : Amounts) : Prop :=
  (r.state = .closed → drawer = noAmounts ∧ transit = noAmounts ∧ r.floatIssued = none)
  ∧ (r.state = .floatTransit → drawer = noAmounts ∧ r.floatIssued = some transit)
  ∧ (r.state.trades = true → transit = noAmounts)
  ∧ (r.state ≠ .closed → r.floatIssued.isSome = true)
  ∧ (r.timer.isSome = true ↔ r.state = .pickupDue)
  ∧ (r.closeCalled = true → r.state.trades = true)

/-- An IDLE lane holds no count and no open bundle (R101). -/
def Lane.Lawful (l : Lane) : Prop := l.session = none → l = Lane.idle

/-- Every safe, every till and every lane keeps its law (R55, R78, R101). -/
def Books.Lawful (bk : Books) : Prop :=
  (∀ i, (bk.safes.get i).Lawful) ∧ (∀ i, (bk.lanes.get i).Lawful)
    ∧ ∀ t, (bk.tills.get t).Lawful (bk.pos.drawer.get t) (bk.pos.transit.get t)

/-- The law of one handover: which fields its state has, and the two distinct key holders of a dock in EXCHANGE, RELEASED
or DEPARTING (R131, R136). -/
def Handover.Lawful (h : Handover) : Prop :=
  (h.visit.isSome = true ↔ h.state ≠ .idle ∧ h.state ≠ .lockout ∧ h.state ≠ .locked)
  ∧ (h.qualify.isSome = true ↔ h.state = .qualifying ∨ h.state = .departing)
  ∧ (h.state = .exchange ∨ h.state = .released ∨ h.state = .departing → ∃ a b, a ≠ b ∧ h.holders = [a, b])
  ∧ (h.state = .custody → h.holders.length ≤ 1)
  ∧ (h.holders ≠ [] → h.state = .custody ∨ h.state = .exchange ∨ h.state = .released ∨ h.state = .departing)
  ∧ (h.pairing.isSome = true ↔ h.state = .custody ∧ h.holders.length = 1)
  ∧ (h.atDock ≠ [] → h.state = .exchange)
  ∧ (h.deliveries ≠ [] → h.state = .custody ∨ h.state = .exchange ∨ h.state = .released ∨ h.state = .departing)
  ∧ h.deliveries.length ≤ 16
  ∧ (h.limit.isSome = true ↔ h.state = .arrived ∨ h.state = .custody ∨ h.state = .exchange ∨ h.state = .released ∨
      h.state = .departing)
  ∧ (h.lockout.isSome = true ↔ h.state = .lockout)
  ∧ h.lockouts ≤ 7

/-- The law of one consignment: its dock, its items and their scanned flags by its state (R123, R124). -/
def Consignment.Lawful (c : Consignment) : Prop :=
  (c.dock = none ↔ c.state = .free)
  ∧ (c.state = .free → c.items = [])
  ∧ (c.state = .ready ∨ c.state = .atDock → c.items ≠ [])
  ∧ c.items.length ≤ 48
  ∧ (c.state ≠ .atDock → ∀ l ∈ c.items, l.scanned = false)

/-- Every handover and every consignment keeps its law, and a dock lists exactly its AT_DOCK consignments, in ascending
order (R124, R131). -/
def Books.DocksLawful (bk : Books) : Prop :=
  (∀ d, (bk.docks.get d).Lawful) ∧ (∀ k, (bk.consigns.get k).Lawful)
    ∧ ∀ d, (bk.docks.get d).atDock.Pairwise (· < ·)
      ∧ ∀ k, k ∈ (bk.docks.get d).atDock ↔ (bk.consigns.get k).state = .atDock ∧ (bk.consigns.get k).dock = some d

/-- The optional fields of a record by its state (R37, R38). -/
def Deposit.Lawful (d : Deposit) : Prop :=
  (d.holder.isSome = true ↔
    d.state = .inSafe ∨ d.state = .inTransfer ∨ d.state = .counting ∨ d.state = .consigned)
  ∧ (d.result.isSome = true ↔ d.state = .discrepant ∨ d.outcome = some .counted ∨ d.outcome = some .released)
  ∧ (d.countingStaff.isSome = true ↔ d.state = .counting ∨ d.result.isSome = true)
  ∧ (d.releasingStaff.isSome = true ↔ d.outcome = some .released)
  ∧ (d.outcome.isSome = true ↔ d.state = .closed)
  ∧ (d.closed.isSome = true ↔ d.state = .closed)
  ∧ (d.carry.isSome = true ↔ d.state = .carried ∧ d.overdue = false)

/-- The state of a deposit that a holder holds (R38). -/
def Holder.state : Holder → DepositState
  | .safe _ _ => .inSafe
  | .transfer _ => .inTransfer
  | .lane _ => .counting
  | .consignment _ => .consigned

/-- The deposits a holder lists (R38). -/
def Books.heldBy (bk : Books) : Holder → List (Fin 512)
  | .safe i side => ((bk.safes.get i).bag side).pouches
  | .transfer t => match bk.transfers.get t with
    | some e => e.deposits
    | none => []
  | .lane l => match (bk.lanes.get l).session with
    | some ss => [ss.deposit]
    | none => []
  | .consignment k => (bk.consigns.get k).depositItems

/-- The bag numbers of every bag item (R39, R124). -/
def Books.bagNumbers (bk : Books) : List Nat :=
  (List.finRange 8).flatMap fun k => (bk.consigns.get k).items.filterMap fun l =>
    match l.item with
    | .bag n _ _ => some n
    | .deposit _ => none

/-- The declared amount in one currency that a record adds to the uncounted total (R22, R38). -/
def uncountedPart (c : Fin 4) : Option Deposit → Int
  | none => 0
  | some d => if d.state = .discrepant ∨ d.state = .closed then 0 else d.declared.get c

/-- The law of the Deposit Register: each record and its holder agree (R38, R101), numbers in use are distinct (R39), the
close order lists the CLOSED records (R41), and the uncounted total and the loaded values are the sums of what is in
custody (R22). -/
def Books.RegisterLawful (bk : Books) : Prop :=
  (∀ i d, bk.deposits.get i = some d →
    d.Lawful ∧ ∀ h, d.holder = some h → d.state = h.state ∧ i ∈ bk.heldBy h)
  ∧ (∀ h, (bk.heldBy h).Nodup ∧ ∀ i ∈ bk.heldBy h, ∃ d, bk.deposits.get i = some d ∧ d.holder = some h)
  ∧ (∀ l ss d, (bk.lanes.get l).session = some ss → bk.deposits.get ss.deposit = some d →
      d.countingStaff = some ss.staff)
  ∧ (∀ i j d e, bk.deposits.get i = some d → bk.deposits.get j = some e → d.state ≠ .closed → e.state ≠ .closed →
      d.number = e.number → i = j)
  ∧ bk.bagNumbers.Nodup
  ∧ (∀ i d, bk.deposits.get i = some d → d.state ≠ .closed → d.number ∉ bk.bagNumbers)
  ∧ bk.closeOrder.Nodup
  ∧ (∀ i, i ∈ bk.closeOrder ↔ ∃ d, bk.deposits.get i = some d ∧ d.state = .closed)
  ∧ (∀ c, bk.pos.uncounted.get c = (bk.deposits.rows.map (uncountedPart c)).sum)
  ∧ ∀ k c, (bk.pos.loaded.get k).get c = ((bk.consigns.get k).bagItems.map fun b => b.2.get c).sum

/-! ## Frames from stations -/

/-- A frame of a kind class is in hand at a segment port, its last bytes pass the receive check, and `x` is the frame as
its owner sees it (R151, R152, R165). -/
def State.Received (s : State) (c : KindClass) (p : Fin 4) (b : FrameBody) (x : Ctx) : Prop :=
  ∃ h, (s.links.segs.get p).hand = some h ∧ kindClass h.hdr.kind = c ∧ receiveOk h.hdr b = true ∧ x = s.ctx p h b

/-- The frame also passes the Classifier's checks on its address, its segment and its admission (R163, steps 1, 3 and
4). -/
def State.Heard (s : State) (k : OwnedKind) (p : Fin 4) (b : FrameBody) (x : Ctx) : Prop :=
  s.Received (.owned k) p b x ∧ x.src ≠ 0 ∧ x.src ≠ 255 ∧ x.entry.segment = p
    ∧ (k = .announce ∨ k = .ready ∨ s.admitted x.src = true)

/-- A port whose frame in hand is finished with an answer: a DOWN port takes none (R152, R150). -/
def SegPort.answered (g : SegPort) (f : TxFrame) : SegPort :=
  { g with hand := none, queue := if g.up then g.queue ++ [f] else g.queue }

/-- The ACCEPT answer of a frame (section 8.6). -/
def acceptFrame (x : Ctx) (result : List Byte) : TxFrame :=
  ⟨x.src, 0, 0xF0, [x.kind, 1, 0, 0] ++ twoBytes result.length ++ result⟩

/-- The REFUSE answer of a frame (section 8.6). -/
def refuseFrame (x : Ctx) (r : Reason) (place : Nat) (result : List Byte) : TxFrame :=
  ⟨x.src, 0, 0xF0, [x.kind, 2, BitVec.ofNat 8 r.code, BitVec.ofNat 8 place] ++ twoBytes result.length ++ result⟩

/-- The forward of an accepted frame with its movement number (R159, R160, section 8.6). -/
def forwardFrame (x : Ctx) (movement : BitVec 32) (result : List Byte) : TxFrame :=
  ⟨0, x.src, x.kind, x.payload ++ beBytes 4 movement.toNat ++ [1, BitVec.ofNat 8 x.bank.val]
    ++ twoBytes result.length ++ result⟩

/-- The state once a frame is accepted: the answer on the port's queue, the forward on the uplink queue with the movement
number raised, the frame finished (R159, R160). -/
def State.accepted (s : State) (x : Ctx) (result : List Byte) : State :=
  { s with links := { s.links with
      segs := s.links.segs.set x.port ((s.links.segs.get x.port).answered (acceptFrame x result))
      uplink := s.links.uplink ++ [⟨.forward, forwardFrame x (s.links.movement + 1) result⟩]
      movement := s.links.movement + 1 } }

/-- The state once a frame is refused: the answer on the port's queue and the frame finished; no forward (R159). -/
def State.turnedAway (s : State) (x : Ctx) (r : Reason) (place : Nat) (result : List Byte) : State :=
  { s with links := { s.links with
      segs := s.links.segs.set x.port ((s.links.segs.get x.port).answered (refuseFrame x r place result)) } }

/-- The state once a PICKUP_CALL is offered to the frame's station: it is placed only if a slot is free (R69, R153). -/
def State.called (s : State) (x : Ctx) : Option (List Byte) → State
  | none => s
  | some payload =>
    if (s.links.segs.get x.port).queue.length + s.segReserved x.port < 16 then
      s.setSeg x.port fun g => if g.up then { g with queue := g.queue ++ [⟨x.src, 0, 0xF1, payload⟩] } else g
    else s

/-- The station frames of the owned kinds, as a row names them. -/
def stationRow : Instr → Option (OwnedKind × Fin 4 × FrameBody)
  | .announce p b => some (.announce, p, b)
  | .ready p b => some (.ready, p, b)
  | .tillOpen p b => some (.tillOpen, p, b)
  | .tillTender p b => some (.tillTender, p, b)
  | .tillPaidout p b => some (.tillPaidout, p, b)
  | .tillPickup p b => some (.tillPickup, p, b)
  | .tillClose p b => some (.tillClose, p, b)
  | .dropRequest p b => some (.dropRequest, p, b)
  | .dropDone p b => some (.dropDone, p, b)
  | .dropCancel p b => some (.dropCancel, p, b)
  | .bagOut p b => some (.bagOut, p, b)
  | .bagIn p b => some (.bagIn, p, b)
  | .pouchIn p b => some (.pouchIn, p, b)
  | .countOpen p b => some (.countOpen, p, b)
  | .countData p b => some (.countData, p, b)
  | .countRecount p b => some (.countRecount, p, b)
  | .countAbort p b => some (.countAbort, p, b)
  | .countClose p b => some (.countClose, p, b)
  | .release p b => some (.release, p, b)
  | .arriveBeacon p b => some (.arriveBeacon, p, b)
  | .departBeacon p b => some (.departBeacon, p, b)
  | .custodyPresent p b => some (.custodyPresent, p, b)
  | .itemOut p b => some (.itemOut, p, b)
  | .itemIn p b => some (.itemIn, p, b)
  | .handoverEnd p b => some (.handoverEnd, p, b)
  | _ => none

/-- The payload of an owned kind fits its layout and its ranges (R163, step 6; section 8.6). -/
def OwnedKind.payloadReads (k : OwnedKind) (bs : List Byte) : Bool :=
  match k with
  | .announce | .ready | .countRecount | .countAbort | .countClose | .handoverEnd => bs.isEmpty
  | .tillOpen => (readDeclared bs).isSome
  | .tillTender => (readTender bs).isSome
  | .tillPaidout => (readPaidOut bs).isSome
  | .tillPickup | .tillClose | .itemIn => (readContainer bs).isSome
  | .dropRequest | .dropDone | .dropCancel | .itemOut => (readContainerNumber bs).isSome
  | .bagOut => (readBagOut bs).isSome
  | .bagIn | .pouchIn => (readReceived bs).isSome
  | .countOpen | .release => (readDepositStaff bs).isSome
  | .countData => (readCountData bs).isSome
  | .arriveBeacon | .departBeacon | .custodyPresent => (readId bs).isSome

/-- Every row that is a frame at a segment port, with the class of its kind. -/
def segmentRow : Instr → Option (KindClass × Fin 4 × FrameBody)
  | .passFrame p b => some (.pass, p, b)
  | .outboundKindStationFrame p b => some (.outbound, p, b)
  | i => (stationRow i).map fun r => (.owned r.1, r.2)

/-- Every row that is a frame at U, of those with the destination given: the rows of the immediate commands are management
frames that carry that one command (assumption 11). -/
def uplinkRow (dst : Byte) (b : FrameBody) : Instr → Prop
  | .downstreamFrame c => c = b ∧ dst ≠ 0 ∧ dst ≠ 255
  | .destination255Frame c => c = b ∧ dst = 255
  | .managementFrame c => c = b ∧ dst = 0
  | .readStatus c => c = b ∧ dst = 0 ∧ oneCommand 0x1E b.payload = true
  | .resume c => c = b ∧ dst = 0 ∧ oneCommand 0x1F b.payload = true
  | .flush c => c = b ∧ dst = 0 ∧ oneCommand 0x20 b.payload = true
  | _ => False

/-! ## Queued commands -/

/-- A command of the given code is at the head of the queue, which is not stalled, and may be acted on (R187). -/
def State.AtHead (s : State) (c : Command) (code : Byte) : Prop :=
  c.code = code ∧ s.mgmt.stalled = false ∧ s.mgmt.phase = .fresh ∧ ∃ rest, s.mgmt.queue = c :: rest

/-- No reply or notice waits and some slot of either kind is free, so that a reply is placed when it is offered (R154). -/
def State.ReplyRoom (s : State) : Prop := s.links.waits = [] ∧ s.slotFree = true

/-- The frame of a reply (section 8.6). -/
def replyFrame (summary : List Byte) (c : Command) (refusal : Option Reason) (result : List Byte) : TxFrame :=
  ⟨0, 0, 0xF4, summary ++ beBytes 2 c.tag.toNat ++ [c.code]
    ++ (match refusal with
      | none => [1, 0]
      | some r => [2, BitVec.ofNat 8 r.code])
    ++ twoBytes result.length ++ result⟩

/-- The state once a reply is placed (R187). -/
def State.said (s : State) (c : Command) (refusal : Option Reason) (result : List Byte) : State :=
  { s with links := { s.links with uplink := s.links.uplink ++ [⟨.reply, replyFrame s.summary c refusal result⟩] } }

/-- The state once the command at the head is complete: its reply placed, and it removed (R187). -/
def State.completed (s : State) (c : Command) (refusal : Option Reason) (result : List Byte) : State :=
  { s.said c refusal result with mgmt := { s.mgmt with queue := s.mgmt.queue.drop 1, phase := .fresh } }

/-- The state once the command at the head is acted on and its reply waits for a slot (R154, R187). -/
def State.replyWaits (s : State) (c : Command) (refusal : Option Reason) (result : List Byte) : State :=
  { s with
    links := { s.links with waits := s.links.waits ++ [.reply ⟨c.tag, c.code, refusal, result⟩ .head] }
    mgmt := { s.mgmt with phase := .replyWaiting } }

/-- The state once a class's NOTICE is placed: its pending flag falls, and the frame carries the summary, the class and its
sources (R191). -/
def State.noticed (s : State) (k : Fin 8) : State :=
  { s with
    notices := s.notices.set k { s.notices.get k with pending := false }
    links := { s.links with uplink := s.links.uplink ++ [⟨.notice, ⟨0, 0, 0xF3, s.summary ++ [BitVec.ofNat 8 k.val,
      BitVec.ofNat 8 ((s.notices.get k).sources.c0.toNat + 2 * (s.notices.get k).sources.c1.toNat +
        4 * (s.notices.get k).sources.c2.toNat + 8 * (s.notices.get k).sources.c3.toNat)]⟩⟩] } }

/-- The state once a class's NOTICE joins the waiting list, with its pending flag set (R191). -/
def State.noticeWaits (s : State) (k : Fin 8) : State :=
  { s with
    notices := s.notices.set k { s.notices.get k with pending := true }
    links := { s.links with waits := s.links.waits ++ [.notice k] } }

/-- The records of chapters 2 to 7 replaced. -/
def State.withBooks (s : State) (bk : Books) : State := { s with books := bk }

/-! ## Entries of the tables (R181, section 8.6) -/

/-- A field of a table entry: its bytes, the value held for a value written, and whether holding another value counts as
clamping. -/
structure EntryField where
  size   : Nat
  held   : Nat → Nat
  clamps : Bool

/-- A number of a range: below it the lowest value is held, above it the highest (R181). -/
def EntryField.number (size lo hi : Nat) : EntryField := ⟨size, fun v => if v < lo then lo else if hi < v then hi else v, true⟩

/-- An enumerated value of so many codes: a code beyond them is held as the power-on value, whose code is 0 (R181). -/
def EntryField.code (values : Nat) : EntryField := ⟨1, fun v => if v < values then v else 0, true⟩

/-- A flag: any value other than 0 reads back as 1 (section 8.6). -/
def EntryField.flag : EntryField := ⟨1, fun v => if v = 0 then 0 else 1, false⟩

/-- A field with no range to leave (R181). -/
def EntryField.whole (size : Nat) : EntryField := ⟨size, id, false⟩

/-- The highest unit index of a written role's code (R161). -/
def unitLimit : Nat → Nat
  | 1 => 159
  | 2 => 15
  | 3 => 5
  | 6 => 1
  | _ => 0

/-- The fields of an entry of a table, at its index and as written, in the order of their bytes (R3, R5, R161, R178, R179,
R181; that the unused flag bits of a STAFF entry are not held is assumption 20). -/
def TableName.fields (t : TableName) (i : Nat) (bs : List Byte) : List EntryField :=
  let written (k : Nat) : Nat := (bs.getD k 0).toNat
  match t with
  | .station =>
    [if i = 0 ∨ i = 255 then ⟨1, fun _ => 0, true⟩ else .code 7, .number 1 0 3, .number 1 0 7,
     .number 1 0 (unitLimit (written 0)), .number 1 0 (if written 0 = 1 then 7 else 0), .flag]
  | .denom =>
    let coin := written 6 = 1 ∧ written 7 ≠ 0
    [.flag, .number 1 0 3, .number 4 1 1000000, .code 2, .flag,
     if coin then .number 4 0 1048575 else .whole 4, if coin then .number 4 0 1048575 else .whole 4,
     if coin then .number 2 1 10000 else .whole 2]
  | .rate => [.flag, .number 4 1 99999999]
  | .tillClass => [.number 8 0 999999999999, .number 2 1 240, .code 2]
  | .safe => [.number 1 1 39, .number 8 0 999999999999, .code 2]
  | .domain => [.number 4 0 1000000, .number 2 0 500]
  | .staff => [.whole 2, .whole 1, ⟨1, fun v => v % 8, false⟩]
  | .courier => [.whole 2, .flag]
  | .schedule => [.flag, .number 4 0 86399, .number 4 0 86399]
  | .dockCfg => [.code 2]
  | .timing =>
    [.number 1 5 120, .number 1 1 120, .number 1 1 60, .number 1 1 10, .number 1 1 10, .number 1 1 30, .number 1 1 30,
     .number 2 10 300, .number 2 10 900, .number 1 1 7, .number 1 5 120]

/-- The bytes of an entry as held. -/
def heldBytes : List EntryField → List Byte → List Byte
  | [], _ => []
  | f :: fs, bs => beBytes f.size (f.held (beValue (bs.take f.size))) ++ heldBytes fs (bs.drop f.size)

/-- The number of an entry's fields held at a value other than the one written (R181). -/
def clampedFields : List EntryField → List Byte → Nat
  | [], _ => 0
  | f :: fs, bs =>
    (f.clamps && f.held (beValue (bs.take f.size)) != beValue (bs.take f.size)).toNat + clampedFields fs (bs.drop f.size)

end Sys2Proof.Machine
end

