-- ==== Sys2Proof/Certificates/Slice0/Obligations.lean ====
section
/-! DEFINITION. The statements for the provers. A statement of a command's effect concludes that exec answers a next state
and gives that state whole, so that it says what changes and that nothing else does. -/

open Sys2Proof Sys2Proof.Machine

/-! ## The machine -/

/-- The block takes the command at the front of its queue; with none it idles (assumption 2). -/
def Obligations.StepRunsFrontCommand : Prop :=
  (∀ (s : State) (c : Instr) (rest : List Instr), s.pending = c :: rest →
    step s = exec c { s with pending := rest }) ∧
  ∀ s : State, s.pending = [] → step s = .next s

/-- Every row answers a next state in every state, and leaves the outside's queue: no command faults and none is refused.
That a row whose event does not occur answers the same state is the model's choice (assumption 1), and that the outside's
queue is kept is too (assumption 2). -/
def Obligations.EveryCommandAnswersNext : Prop :=
  ∀ (i : Instr) (s : State), ∃ t, exec i s = .next t ∧ t.pending = s.pending

/-- POWER_ON_RESET gives every part its power-on value (R3, R5, R22, R53, R54, R77, R93, R100, R123, R131, R150, R151, R156,
R160, R161, R166, R171, R177, R178, R179, R186, R190, R191). That the outside's queue is kept is the model's choice
(assumption 2), and so are the calibration fields 0, 0 and 1 of a Denomination entry without one (assumption 4) and the
two outputs of each port, not BUSY and no frame sent (assumption 26). -/
def Obligations.PowerOnResetValues : Prop :=
  ∀ s : State, ∃ t, exec .powerOnReset s = .next t ∧ t.pending = s.pending ∧
    { t with pending := [] } = State.reset ∧
    (∀ i, t.books.pos.drawer.get i = noAmounts ∧ t.books.pos.transit.get i = noAmounts) ∧
    (∀ k, t.books.pos.loaded.get k = noAmounts) ∧
    t.books.pos.reserve = noAmounts ∧ t.books.pos.suspect = noAmounts ∧ t.books.pos.uncounted = noAmounts ∧
    t.books.pos.accountability = noAmounts ∧ t.books.pos.variance = noAmounts ∧ (∀ c, noAmounts.get c = 0) ∧
    (∀ i, t.books.deposits.get i = none) ∧ t.books.closeOrder = [] ∧
    (∀ i, t.books.tills.get i = ⟨.closed, none, none, false, 0, none⟩) ∧
    (∀ i, t.books.safes.get i = ⟨.running, ⟨.active, [], 0⟩, ⟨.empty, [], 0⟩, none, false⟩) ∧
    (∀ i, t.books.transfers.get i = none) ∧
    (∀ i, (t.books.lanes.get i).session = none ∧ (t.books.lanes.get i).bundle = [] ∧
      ∀ d, (t.books.lanes.get i).counts.get d = 0 ∧ (t.books.lanes.get i).suspects.get d = 0) ∧
    (∀ k, t.books.consigns.get k = ⟨.free, none, []⟩) ∧
    (∀ d, t.books.docks.get d = ⟨.idle, none, none, [], none, [], [], 0, none, none⟩) ∧
    (∀ p, t.links.segs.get p = ⟨false, 0, none, [], 0, false, false, false, none⟩) ∧
    t.links.uport = ⟨false, 0, none, 0, false, none⟩ ∧ t.links.uplink = [] ∧ t.links.waits = [] ∧
    t.links.pointer = 0 ∧ t.links.movement = 0 ∧ (∀ a, t.admission.get a = .absent) ∧
    (∀ i, t.recorder.records.get i = none) ∧ t.recorder.overflow = false ∧ t.recorder.first = none ∧
    t.store.active = 0 ∧ t.store.activation = none ∧ t.mgmt.queue = [] ∧ t.mgmt.stalled = false ∧
    t.clock = ⟨0, true⟩ ∧ (∀ c, t.notices.get c = ⟨⟨false, false, false, false⟩, false, false⟩) ∧
    ∀ T, T = t.store.bank0 ∨ T = t.store.bank1 →
      (∀ a, T.stations.get a = ⟨.none, 0, 0, false⟩) ∧
      (∀ i, T.denoms.get i = ⟨false, 0, 1, .note, false, 0, 0, 1⟩) ∧
      (∀ c, T.rate c = if c = 0 then ⟨true, 1000000⟩ else ⟨false, 1⟩) ∧
      (∀ i, T.tillClasses.get i = ⟨0, 1, .flag⟩) ∧ (∀ i, T.safes.get i = ⟨1, 0, .stop⟩) ∧
      (∀ i, T.domains.get i = ⟨0, 0⟩) ∧ (∀ i, T.staff.get i = ⟨0, 0, false, false, false⟩) ∧
      (∀ i, T.couriers.get i = ⟨0, false⟩) ∧ (∀ i, T.schedule.get i = ⟨false, 0, 0⟩) ∧
      (∀ d, T.dockModes.get d = .auto) ∧ T.timing = ⟨30, 30, 20, 3, 2, 5, 5, 60, 120, 3, 30⟩

/-- The state after power-on reset keeps every law the other statements carry through a step. -/
def Obligations.ResetKeepsEveryLaw : Prop :=
  State.reset.books.pos.Conserved ∧ State.reset.books.pos.InRange ∧ State.reset.QueuesBounded ∧
    State.reset.recorder.OneEach ∧ State.reset.books.Lawful ∧ State.reset.books.DocksLawful ∧
    State.reset.books.RegisterLawful

/-! ## Laws that every step keeps -/

/-- R23: held total and accounted total agree in every currency, at reset and after every step from a state where they
do. -/
def Obligations.EveryStepConservesCash : Prop :=
  State.reset.books.pos.Conserved ∧
  ∀ s t : State, s.books.pos.Conserved → step s = .next t → t.books.pos.Conserved

/-- R24: every amount of the Position Table is in its range at reset and stays in it through every step; a movement is
refused with NEGATIVE_POSITION if some final value would be below 0, otherwise with POSITION_LIMIT if some would be
beyond its limit, and otherwise applied whole. That a movement is checked by the four central positions also where it leaves
them as they are is assumption 18, which a state with an amount out of its range would show. -/
def Obligations.AmountsStayInRangeAndMovementsAreWhole : Prop :=
  (State.reset.books.pos.InRange ∧
   ∀ s t : State, s.books.pos.InRange → step s = .next t → t.books.pos.InRange) ∧
  ∀ (p : Positions) (m : Move),
    ((∃ l ∈ m.finals (p.after m), ∃ c, l.get c < 0) → p.present m = .error .negativePosition) ∧
    ((∀ l ∈ m.finals (p.after m), ∀ c, 0 ≤ l.get c) →
      ((∃ l ∈ m.finals (p.after m), ∃ c, 999999999999 < l.get c) ∨
        (∃ c, (p.after m).variance.get c < -999999999999 ∨ 999999999999 < (p.after m).variance.get c)) →
      p.present m = .error .positionLimit) ∧
    ((∀ l ∈ m.finals (p.after m), ∀ c, 0 ≤ l.get c ∧ l.get c ≤ 999999999999) →
      (∀ c, -999999999999 ≤ (p.after m).variance.get c ∧ (p.after m).variance.get c ≤ 999999999999) →
      p.present m = .ok (p.after m))

/-- R153, R154, R186: no queue ever holds more than its slots. R173: at most one set fault record names any one station. -/
def Obligations.EveryStepKeepsQueuesAndFaultRecords : Prop :=
  (∀ s t : State, s.QueuesBounded → step s = .next t → t.QueuesBounded) ∧
  ∀ s t : State, s.recorder.OneEach → step s = .next t → t.recorder.OneEach

/-- R78, R101, R55, R124, R131: every safe keeps its law; an IDLE lane never holds a count or an open bundle; every till
keeps its law; and every handover and every consignment keeps its law, the two distinct key holders of a dock in EXCHANGE,
RELEASED or DEPARTING and a dock's list of its AT_DOCK consignments included. -/
def Obligations.EveryStepKeepsUnitLaws : Prop :=
  (∀ s t : State, (∀ i, (s.books.safes.get i).Lawful) → step s = .next t → ∀ i, (t.books.safes.get i).Lawful) ∧
  (∀ s t : State, (∀ i, (s.books.lanes.get i).Lawful) → step s = .next t → ∀ i, (t.books.lanes.get i).Lawful) ∧
  (∀ s t : State, (∀ i, (s.books.tills.get i).Lawful (s.books.pos.drawer.get i) (s.books.pos.transit.get i)) →
    step s = .next t → ∀ i, (t.books.tills.get i).Lawful (t.books.pos.drawer.get i) (t.books.pos.transit.get i)) ∧
  ∀ s t : State, s.books.DocksLawful → step s = .next t → t.books.DocksLawful

/-- R38, R101: each deposit record has the fields of its state, and it and its holder name each other. R39: no two live
records and no two bag items carry one number, nor a live record a bag item's. R41: the close order lists the CLOSED
records, each once. R22: the uncounted total is the sum of the declared lists still to be counted, and a consignment's
loaded value the sum of its bags. The laws of docks and consignments are their premise: a departure takes each of a dock's
consignments once. -/
def Obligations.EveryStepKeepsRegisterLaws : Prop :=
  ∀ s t : State, s.books.DocksLawful → s.books.RegisterLawful → step s = .next t → t.books.RegisterLawful

/-! ## Valuation (chapter 1) -/

/-- R10, R11: conv rounds |v| * R / 1,000,000 half to even, puts the sign back and saturates at AMAX. R7: the count of
a reading is rounded half up and clamped to 9,999,999. -/
def Obligations.ConversionAndWeighingRound : Prop :=
  (∀ (T : Tables) (v : Int) (c : Fin 4), ∃ q : Nat,
     (T.conv v c).1 =
       (if 999999999999 < q then (if v < 0 then -999999999999 else 999999999999) else if v < 0 then -(q : Int) else q) ∧
     ((T.conv v c).2 = true ↔ 999999999999 < q) ∧
     2 * (v.natAbs * (T.rate c).rate) ≤ (2 * q + 1) * 1000000 ∧
     2 * q * 1000000 ≤ 2 * (v.natAbs * (T.rate c).rate) + 1000000 ∧
     (2 * (v.natAbs * (T.rate c).rate) = (2 * q + 1) * 1000000 → q % 2 = 0) ∧
     (2 * q * 1000000 = 2 * (v.natAbs * (T.rate c).rate) + 1000000 → q % 2 = 0) ∧
     (c = 0 → q = v.natAbs)) ∧
  ∀ z w n r : Nat, z < w →
    (r ≤ z → weighCount z w n r = 0) ∧
    (z < r → ∃ q, weighCount z w n r = min q 9999999 ∧
      2 * q * (w - z) ≤ 2 * ((r - z) * n) + (w - z) ∧ 2 * ((r - z) * n) + (w - z) < (2 * q + 2) * (w - z))

/-- R12: base(x), term by term, a disabled currency contributing nothing. R9: the counted and the suspect list of committed
totals, and the refusals in their order; that suspect counts are looked at too is assumption 16. R16: the close of a count
session in its order. R17, R18: the allowed variance and the verdict. -/
def Obligations.ValuationOfAClose : Prop :=
  (∀ (T : Tables) (x : Amounts) (n : Int),
     n = ((List.finRange 4).map fun c => if (T.rate c).enabled = true then (T.conv (x.get c) c).1 else 0).sum →
     (T.base x).1 =
       (if 999999999999 < n then 999999999999 else if n < -999999999999 then -999999999999 else n) ∧
     ((T.base x).2 = true ↔ n < -999999999999 ∨ 999999999999 < n ∨
       ∃ c, (T.rate c).enabled = true ∧ (T.conv (x.get c) c).2 = true)) ∧
  (∀ (T : Tables) (counts suspects : Tab Nat 32) (used : Fin 32 → Prop),
     (∀ d, used d ↔ counts.get d ≠ 0 ∨ suspects.get d ≠ 0) →
     ((∃ d, used d ∧ (T.denoms.get d).valid = false) → T.valueTotals counts suspects = .error .badState) ∧
     ((∀ d, used d → (T.denoms.get d).valid = true) →
       ((∃ d, used d ∧ (T.rate (T.denoms.get d).currency).enabled = false) →
         T.valueTotals counts suspects = .error .currencyDisabled) ∧
       ((∀ d, used d → (T.rate (T.denoms.get d).currency).enabled = true) → ∀ C S : Amounts,
         (∀ c, C.get c = ((List.finRange 32).map fun d =>
             if (T.denoms.get d).currency = c then (counts.get d * (T.denoms.get d).face : Int) else 0).sum ∧
           S.get c = ((List.finRange 32).map fun d =>
             if (T.denoms.get d).currency = c then (suspects.get d * (T.denoms.get d).face : Int) else 0).sum) →
         ((∃ c, 999999999999 < C.get c ∨ 999999999999 < S.get c) →
           T.valueTotals counts suspects = .error .positionLimit) ∧
         ((∀ c, C.get c ≤ 999999999999 ∧ S.get c ≤ 999999999999) →
           T.valueTotals counts suspects = .ok (C, S))))) ∧
  (∀ (T : Tables) (e : Fin 8) (declared : Amounts) (counts suspects : Tab Nat 32),
     (∀ r, T.valueTotals counts suspects = .error r → T.closeValue e declared counts suspects = .error r) ∧
     ∀ C S, T.valueTotals counts suspects = .ok (C, S) →
       ((∃ c, declared.get c ≠ 0 ∧ (T.rate c).enabled = false) →
         T.closeValue e declared counts suspects = .error .currencyDisabled) ∧
       ((∀ c, declared.get c ≠ 0 → (T.rate c).enabled = true) → ∀ (V : Amounts) (allowed : Int),
         (∀ c, V.get c = C.get c - declared.get c) →
         allowed = allowedVariance (T.domains.get e) (T.base declared).1 →
         T.closeValue e declared counts suspects = .ok
           ⟨⟨C, S, verdictOf V (T.base V).1 allowed, (T.base V).1⟩, allowed, (T.base V).2 || (T.base declared).2⟩)) ∧
  ∀ (e : DomainEntry) (dbase base : Int) (v : Amounts), 0 ≤ dbase →
    allowedVariance e dbase = min (e.tabs + (dbase * e.tppt) / 10000) 999999999999 ∧
    0 ≤ allowedVariance e dbase ∧
    ((∀ c, v.get c = 0) → verdictOf v base (allowedVariance e dbase) = .balanced) ∧
    ((∃ c, v.get c ≠ 0) →
      (base.natAbs ≤ (allowedVariance e dbase).natAbs → verdictOf v base (allowedVariance e dbase) = .within) ∧
      (base < -allowedVariance e dbase → verdictOf v base (allowedVariance e dbase) = .short) ∧
      (allowedVariance e dbase < base → verdictOf v base (allowedVariance e dbase) = .over))

/-! ## Positions (chapter 2) -/

/-- R27 to R34: what each movement changes, in every currency, and that it changes no other position. -/
def Obligations.MovementsChangeTheirPositions : Prop :=
  (∀ (p : Positions) (t u : Fin 160) (l : Amounts) (c e : Fin 4) (a b : Int) (q : Positions),
     -- float issue
     (q = p.after (floatIssueMove t l) →
       q = { p with reserve := q.reserve, transit := q.transit } ∧
       q.reserve.get e = p.reserve.get e - l.get e ∧
       (q.transit.get u).get e = (p.transit.get u).get e + (if u = t then l.get e else 0)) ∧
     -- float recall
     (q = p.after (floatRecallMove p t) →
       q = { p with reserve := q.reserve, transit := q.transit } ∧
       q.reserve.get e = p.reserve.get e + (p.transit.get t).get e ∧
       (q.transit.get u).get e = (if u = t then 0 else (p.transit.get u).get e)) ∧
     -- float confirm
     (q = p.after (floatConfirmMove p t l) →
       q = { p with drawer := q.drawer, transit := q.transit, variance := q.variance } ∧
       (q.drawer.get u).get e = (p.drawer.get u).get e + (if u = t then l.get e else 0) ∧
       (q.transit.get u).get e = (if u = t then 0 else (p.transit.get u).get e) ∧
       q.variance.get e = p.variance.get e + (l.get e - (p.transit.get t).get e)) ∧
     -- tender
     (q = p.after (tenderMove t c a b) →
       q = { p with drawer := q.drawer, accountability := q.accountability } ∧
       (q.drawer.get u).get e =
         (p.drawer.get u).get e + (if u = t then (if e = c then a else 0) - (if e = 0 then b else 0) else 0) ∧
       q.accountability.get e = p.accountability.get e + ((if e = c then a else 0) - (if e = 0 then b else 0))) ∧
     -- paid-out
     (q = p.after (paidOutMove t c a) →
       q = { p with drawer := q.drawer, accountability := q.accountability } ∧
       (q.drawer.get u).get e = (p.drawer.get u).get e - (if u = t then (if e = c then a else 0) else 0) ∧
       q.accountability.get e = p.accountability.get e - (if e = c then a else 0)) ∧
     -- pickup
     (q = p.after (pickupMove t l) →
       q = { p with drawer := q.drawer, uncounted := q.uncounted } ∧
       (q.drawer.get u).get e = (p.drawer.get u).get e - (if u = t then l.get e else 0) ∧
       q.uncounted.get e = p.uncounted.get e + l.get e) ∧
     -- close
     (q = p.after (closeMove p t l) →
       q = { p with drawer := q.drawer, uncounted := q.uncounted, variance := q.variance } ∧
       (q.drawer.get u).get e = (if u = t then 0 else (p.drawer.get u).get e) ∧
       q.uncounted.get e = p.uncounted.get e + l.get e ∧
       q.variance.get e = p.variance.get e + (l.get e - (p.drawer.get t).get e))) ∧
  ∀ (p : Positions) (k j : Fin 8) (d l m : Amounts) (e : Fin 4) (q : Positions),
    -- opening
    (q = p.after (openingMove l) →
      q = { p with reserve := q.reserve, accountability := q.accountability } ∧
      q.reserve.get e = p.reserve.get e + l.get e ∧ q.accountability.get e = p.accountability.get e + l.get e) ∧
    -- delivery
    (q = p.after (deliveryMove l) →
      q = { p with uncounted := q.uncounted, accountability := q.accountability } ∧
      q.uncounted.get e = p.uncounted.get e + l.get e ∧ q.accountability.get e = p.accountability.get e + l.get e) ∧
    -- count close
    (q = p.after (countCloseMove d l m) →
      q = { p with
        uncounted := q.uncounted, reserve := q.reserve, suspect := q.suspect, variance := q.variance } ∧
      q.uncounted.get e = p.uncounted.get e - d.get e ∧ q.reserve.get e = p.reserve.get e + l.get e ∧
      q.suspect.get e = p.suspect.get e + m.get e ∧
      q.variance.get e = p.variance.get e + (l.get e + m.get e - d.get e)) ∧
    -- load, from either source
    (∀ src, q = p.after (loadMove k src l) →
      q = { p with loaded := q.loaded, reserve := q.reserve, suspect := q.suspect } ∧
      (q.loaded.get j).get e = (p.loaded.get j).get e + (if j = k then l.get e else 0) ∧
      q.reserve.get e = p.reserve.get e - (if src = .reserve then l.get e else 0) ∧
      q.suspect.get e = p.suspect.get e - (if src = .suspect then l.get e else 0)) ∧
    -- unload of any bags, from either source
    (∀ bags : List (BagSource × Amounts), q = p.after (unloadMove k bags) →
      q = { p with loaded := q.loaded, reserve := q.reserve, suspect := q.suspect } ∧
      (q.loaded.get j).get e = (p.loaded.get j).get e - (if j = k then (bags.map fun b => b.2.get e).sum else 0) ∧
      q.reserve.get e = p.reserve.get e + (bags.map fun b => if b.1 = .reserve then b.2.get e else 0).sum ∧
      q.suspect.get e = p.suspect.get e + (bags.map fun b => if b.1 = .suspect then b.2.get e else 0).sum) ∧
    -- departure of consignments, each named once, with the declared lists of their deposits
    ∀ (ks : List (Fin 8)) (declared : List Amounts), ks.Nodup → q = p.after (departureMove p ks declared) →
      q = { p with loaded := q.loaded, uncounted := q.uncounted, accountability := q.accountability } ∧
      (q.loaded.get j).get e = (if j ∈ ks then 0 else (p.loaded.get j).get e) ∧
      q.uncounted.get e = p.uncounted.get e - (declared.map fun l => l.get e).sum ∧
      q.accountability.get e = p.accountability.get e - (ks.map fun k => (p.loaded.get k).get e).sum -
        (declared.map fun l => l.get e).sum

/-! ## The Deposit Register (chapter 3) -/

/-- R40, R41: a creation request is refused with DUPLICATE_NUMBER, REGISTER_FULL or its movement's reason, in that order;
otherwise the lowest EMPTY record, else the first of the close order, takes the new record. R39: a number is in use where
a live deposit, or a bag item of a consignment that is not FREE, carries it. R2: a list is stored with one amount for each
currency, 0 for a currency it does not name. -/
def Obligations.CreationRequestTakesTheRightRecord : Prop :=
  (∀ (bk : Books) (T : Tables) (tod : Nat) (c : Creation) (m : Move),
     (bk.numberInUse c.number = true → bk.create T tod c m = .error .duplicateNumber) ∧
     (bk.numberInUse c.number = false → (∀ i, bk.deposits.get i ≠ none) → bk.closeOrder = [] →
       bk.create T tod c m = .error .registerFull) ∧
     (bk.numberInUse c.number = false → ∀ i,
       ((bk.deposits.get i = none ∧ ∀ j, j < i → bk.deposits.get j ≠ none) ∨
         ((∀ j, bk.deposits.get j ≠ none) ∧ ∃ rest, bk.closeOrder = i :: rest)) →
       (∀ r, bk.pos.present m = .error r → bk.create T tod c m = .error r) ∧
       ∀ q, bk.pos.present m = .ok q → ∃ bk', bk.create T tod c m = .ok (bk', i) ∧ bk'.pos = q ∧
         (∃ d, bk'.deposits.get i = some d ∧ d.kind = c.kind ∧ d.number = c.number ∧ d.source = c.source ∧
           d.declared = storedList c.list ∧ d.base = (T.base (storedList c.list)).1 ∧ d.created = tod ∧
           d.overdue = false ∧ d.outcome = none ∧ d.holder = none ∧ d.result = none ∧ d.countingStaff = none ∧
           d.releasingStaff = none ∧ d.closed = none ∧
           (c.kind ≠ .delivery → d.state = .carried ∧ d.carry = some (T.timing.carryTransfer * 60)) ∧
           (c.kind = .delivery → d.state = .awaitingCount ∧ d.carry = none)) ∧
         (∀ j, j ≠ i → bk'.deposits.get j = bk.deposits.get j) ∧ bk'.closeOrder = bk.closeOrder.erase i ∧
         bk' = { bk with pos := bk'.pos, deposits := bk'.deposits, closeOrder := bk'.closeOrder })) ∧
  (∀ (bk : Books) (n : Nat), bk.numberInUse n = true ↔
     (∃ i d, bk.deposits.get i = some d ∧ d.state ≠ .closed ∧ d.number = n) ∨
       ∃ k src a scanned, (bk.consigns.get k).state ≠ .free ∧
         (⟨.bag n src a, scanned⟩ : ConsignLine) ∈ (bk.consigns.get k).items) ∧
  ∀ (l : DeclaredList) (c : Fin 4),
    (∀ n, (c, n) ∈ l → (∀ m, (c, m) ∈ l → m = n) → (storedList l).get c = n) ∧
    ((∀ n, (c, n) ∉ l) → (storedList l).get c = 0)

/-- R50: the expiry of a carry timer sets OVERDUE and the carry overdue source. R70: the expiry of a pickup timer takes the
till to PICKUP_OVERDUE and sets the pickup overdue source. That a timer has run down when it stands at 0 (assumption 6)
and that the row of one that has not changes nothing (assumption 1) are the model's choices. -/
def Obligations.OverdueExpiries : Prop :=
  (∀ (s : State) (i : Fin 512) (d : Deposit), s.books.deposits.get i = some d →
     (d.state = .carried → d.carry = some 0 →
       exec (.carryTimerExpiry i) s = .next ((s.withBooks { s.books with
         deposits := s.books.deposits.set i (some { d with carry := none, overdue := true }) }).setSource
           .carryOverdue)) ∧
     (d.carry ≠ some 0 → exec (.carryTimerExpiry i) s = .next s)) ∧
  ∀ (s : State) (t : Fin 160) (k : Timer), (s.books.tills.get t).timer = some k →
    ((s.books.tills.get t).state = .pickupDue → k.remaining = 0 →
      exec (.pickupTimerExpiry t) s = .next ((s.withBooks { s.books with
        tills := s.books.tills.set t { s.books.tills.get t with
          state := .pickupOverdue, timer := none } }).setSource .pickupOverdue)) ∧
    (k.remaining ≠ 0 → exec (.pickupTimerExpiry t) s = .next s)

/-- R51: PURGE_CLOSED makes every CLOSED record EMPTY, keeps every other, empties the close order and replies the
number of records made EMPTY. -/
def Obligations.PurgeEmptiesClosedRecords : Prop :=
  ∀ (s : State) (c : Command), s.AtHead c 0x03 → c.params = [] → s.ReplyRoom →
    ∃ D : Tab (Option Deposit) 512, ∃ n : Nat,
      (∀ i, (∀ d, s.books.deposits.get i = some d → d.state = .closed → D.get i = none) ∧
        ((∀ d, s.books.deposits.get i = some d → d.state ≠ .closed) → D.get i = s.books.deposits.get i)) ∧
      n = ((List.finRange 512).filter fun i =>
        (s.books.deposits.get i).any fun d => d.state == .closed).length ∧
      exec .purgeClosed s = .next
        ((s.withBooks { s.books with deposits := D, closeOrder := [] }).completed c none (twoBytes n))

/-! ## Tills (chapter 4) -/

/-- R58: FLOAT_ISSUE in CLOSED, with its currencies enabled and its movement accepted; in another state BAD_STATE. R59:
FLOAT_RECALL in FLOAT_TRANSIT; in another state BAD_STATE. R3, R4: a list passes the currency check where every currency
it names is enabled, as currency 0 always is. -/
def Obligations.FloatIssueAndRecall : Prop :=
  ((∀ (s : State) (c : Command) (f : FloatIssue), s.AtHead c 0x05 → readFloatIssue c.params = some f → s.ReplyRoom →
      ((s.books.tills.get f.till).state ≠ .closed →
        exec .floatIssue s = .next (s.completed c (some .badState) [])) ∧
      ((s.books.tills.get f.till).state = .closed →
        (s.activeTables.currenciesEnabled f.list = false →
          exec .floatIssue s = .next (s.completed c (some .currencyDisabled) [])) ∧
        (s.activeTables.currenciesEnabled f.list = true →
          (∀ r, s.books.pos.present (floatIssueMove f.till (storedList f.list)) = .error r →
            exec .floatIssue s = .next (s.completed c (some r) [])) ∧
          ∀ q, s.books.pos.present (floatIssueMove f.till (storedList f.list)) = .ok q →
            exec .floatIssue s = .next ((s.withBooks { s.books with
                pos := q
                tills := s.books.tills.set f.till { s.books.tills.get f.till with
                  state := .floatTransit, floatIssued := some (storedList f.list), pickups := 0
                  lastMove := some s.clock.tod } }).completed c none
              (oneByte f.till.val ++ listBytes (q.transit.get f.till)))))) ∧
   ∀ (s : State) (c : Command) (t : Fin 160), s.AtHead c 0x06 → readIndex 160 c.params = some t → s.ReplyRoom →
     ((s.books.tills.get t).state ≠ .floatTransit →
       exec .floatRecall s = .next (s.completed c (some .badState) [])) ∧
     ((s.books.tills.get t).state = .floatTransit →
       (∀ r, s.books.pos.present (floatRecallMove s.books.pos t) = .error r →
         exec .floatRecall s = .next (s.completed c (some r) [])) ∧
       ∀ q, s.books.pos.present (floatRecallMove s.books.pos t) = .ok q →
         exec .floatRecall s = .next ((s.withBooks { s.books with
             pos := q
             tills := s.books.tills.set t { s.books.tills.get t with
               state := .closed, floatIssued := none, lastMove := some s.clock.tod } }).completed c none
           (listBytes (s.books.pos.transit.get t))))) ∧
  ∀ (T : Tables) (l : DeclaredList),
    (T.currenciesEnabled l = true ↔ ∀ c n, (c, n) ∈ l → T.enabled c = true) ∧ T.enabled 0 = true ∧
    ∀ c, c ≠ 0 → T.enabled c = (T.rates.get c).enabled

/-- R68, R69: the drawer limit check by the till's state and whether its drawer is over the limit of its class. -/
def Obligations.DrawerLimitCheckByState : Prop :=
  ∀ (T : Tables) (t : Fin 160) (cls : Fin 8) (bk : Books),
    (limitCheck T t cls bk).base = (T.base (bk.pos.drawer.get t)).1 ∧
    (((T.tillClasses.get cls).limit : Int) < (T.base (bk.pos.drawer.get t)).1 →
      ((bk.tills.get t).state = .opened →
        (limitCheck T t cls bk).books = { bk with tills := bk.tills.set t { bk.tills.get t with
          state := .pickupDue
          timer := some ⟨(T.tillClasses.get cls).window * 60, (T.tillClasses.get cls).window * 60⟩ } } ∧
        (limitCheck T t cls bk).call = some (oneByte t.val ++ amountBytes (T.base (bk.pos.drawer.get t)).1 ++
          amountBytes (T.tillClasses.get cls).limit ++ twoBytes ((T.tillClasses.get cls).window * 60))) ∧
      ((bk.tills.get t).state ≠ .opened →
        (limitCheck T t cls bk).books = bk ∧ (limitCheck T t cls bk).call = none)) ∧
    ((T.base (bk.pos.drawer.get t)).1 ≤ ((T.tillClasses.get cls).limit : Int) →
      (limitCheck T t cls bk).call = none ∧
      ((bk.tills.get t).state = .opened ∨ (bk.tills.get t).state = .pickupDue ∨
          (bk.tills.get t).state = .pickupOverdue →
        (limitCheck T t cls bk).books =
          { bk with tills := bk.tills.set t { bk.tills.get t with state := .opened, timer := none } }))

/-- R60: TILL_OPEN in FLOAT_TRANSIT confirms the float, opens the till and runs the limit check, or is refused with
CURRENCY_DISABLED or its movement's reason; in CLOSED it is refused with NO_FLOAT, in a trading till with BAD_STATE. The order
of the answer's fields is assumption 21. -/
def Obligations.TillOpenConfirmsTheFloat : Prop :=
  ∀ (s : State) (p : Fin 4) (b : FrameBody) (x : Ctx) (t : Fin 160) (cls : Fin 8) (g : DeclaredList),
    s.Heard .tillOpen p b x → x.entry.role = .till t cls → readDeclared b.payload = some g →
    ((s.books.tills.get t).state = .closed →
      exec (.tillOpen p b) s = .next (s.turnedAway x .noFloat 0 [])) ∧
    ((s.books.tills.get t).state.trades = true →
      exec (.tillOpen p b) s = .next (s.turnedAway x .badState 0 [])) ∧
    ((s.books.tills.get t).state = .floatTransit → x.tab.currenciesEnabled g = false →
      exec (.tillOpen p b) s = .next (s.turnedAway x .currencyDisabled 0 [])) ∧
    ((s.books.tills.get t).state = .floatTransit → x.tab.currenciesEnabled g = true →
      ∀ r, s.books.pos.present (floatConfirmMove s.books.pos t (storedList g)) = .error r →
        exec (.tillOpen p b) s = .next (s.turnedAway x r 0 [])) ∧
    ((s.books.tills.get t).state = .floatTransit → x.tab.currenciesEnabled g = true →
      ∀ q, s.books.pos.present (floatConfirmMove s.books.pos t (storedList g)) = .ok q →
        ∃ k, k = limitCheck x.tab t cls { s.books with
            pos := q
            tills := s.books.tills.set t { s.books.tills.get t with
              state := .opened, lastMove := some x.clock.tod } } ∧
          exec (.tillOpen p b) s = .next (((s.withBooks k.books).accepted x
            (oneByte (k.books.tills.get t).state.code ++ amountBytes k.base ++
              listBytes (subLists (storedList g) (s.books.pos.transit.get t)))).called x k.call))

/-- R62, R63, R64: TILL_TENDER and TILL_PAIDOUT, their refusals and their effect; cash tendered into an overdue till whose
class refuses it is refused before its currency is looked at. The order of the answers' fields is assumption 21. R54: the
trading states are OPEN, PICKUP_DUE and PICKUP_OVERDUE. -/
def Obligations.TillTenderAndPaidout : Prop :=
  ((∀ (s : State) (p : Fin 4) (b : FrameBody) (x : Ctx) (t : Fin 160) (cls : Fin 8) (f : Tender),
      s.Heard .tillTender p b x → x.entry.role = .till t cls → readTender b.payload = some f →
      ((s.books.tills.get t).state.trades = false →
        exec (.tillTender p b) s = .next (s.turnedAway x .badState 0 [])) ∧
      ((s.books.tills.get t).state = .pickupOverdue → (x.tab.tillClasses.get cls).action = .refuseCash →
        0 < f.amount → exec (.tillTender p b) s = .next (s.turnedAway x .drawerOverdue 0 [])) ∧
      ((s.books.tills.get t).state.trades = true →
        ((s.books.tills.get t).state ≠ .pickupOverdue ∨ (x.tab.tillClasses.get cls).action = .flag ∨ f.amount = 0) →
        (x.tab.enabled f.currency = false →
          exec (.tillTender p b) s = .next (s.turnedAway x .currencyDisabled 0 []))) ∧
      ((s.books.tills.get t).state.trades = true →
        ((s.books.tills.get t).state ≠ .pickupOverdue ∨ (x.tab.tillClasses.get cls).action = .flag ∨ f.amount = 0) →
        x.tab.enabled f.currency = true →
        (∀ r, s.books.pos.present (tenderMove t f.currency f.amount f.change) = .error r →
          exec (.tillTender p b) s = .next (s.turnedAway x r 0 [])) ∧
        ∀ q, s.books.pos.present (tenderMove t f.currency f.amount f.change) = .ok q →
          ∃ k, k = limitCheck x.tab t cls { s.books with
              pos := q
              tills := s.books.tills.set t { s.books.tills.get t with lastMove := some x.clock.tod } } ∧
            exec (.tillTender p b) s = .next (((s.withBooks k.books).accepted x
              (oneByte (k.books.tills.get t).state.code ++ amountBytes k.base)).called x k.call))) ∧
   ∀ (s : State) (p : Fin 4) (b : FrameBody) (x : Ctx) (t : Fin 160) (cls : Fin 8) (f : PaidOut),
     s.Heard .tillPaidout p b x → x.entry.role = .till t cls → readPaidOut b.payload = some f →
     ((s.books.tills.get t).state.trades = false →
       exec (.tillPaidout p b) s = .next (s.turnedAway x .badState 0 [])) ∧
     ((s.books.tills.get t).state.trades = true → x.tab.enabled f.currency = false →
       exec (.tillPaidout p b) s = .next (s.turnedAway x .currencyDisabled 0 [])) ∧
     ((s.books.tills.get t).state.trades = true → x.tab.enabled f.currency = true →
       (∀ r, s.books.pos.present (paidOutMove t f.currency f.amount) = .error r →
         exec (.tillPaidout p b) s = .next (s.turnedAway x r 0 [])) ∧
       ∀ q, s.books.pos.present (paidOutMove t f.currency f.amount) = .ok q →
         ∃ k, k = limitCheck x.tab t cls { s.books with
             pos := q
             tills := s.books.tills.set t { s.books.tills.get t with lastMove := some x.clock.tod } } ∧
           exec (.tillPaidout p b) s = .next (((s.withBooks k.books).accepted x
             (oneByte (k.books.tills.get t).state.code ++ amountBytes k.base)).called x k.call))) ∧
  ∀ st : TillState, st.trades = true ↔ st = .opened ∨ st = .pickupDue ∨ st = .pickupOverdue

/-- R65: TILL_PICKUP in a trading till creates its deposit, counts the pickup and runs the limit check. R66:
TILL_CLOSE creates its deposit and closes the till; no limit check runs. Both are refused with BAD_STATE in a till that does
not trade, then with CURRENCY_DISABLED, then with the reason of their creation request. The order of the answers' fields is
assumption 21, and that BAD_STATE also answers a frame repeated at the till that a close has closed assumption 37. -/
def Obligations.TillPickupAndClose : Prop :=
  (∀ (s : State) (p : Fin 4) (b : FrameBody) (x : Ctx) (t : Fin 160) (cls : Fin 8) (f : Container),
     s.Heard .tillPickup p b x → x.entry.role = .till t cls → readContainer b.payload = some f →
     ((s.books.tills.get t).state.trades = false →
       exec (.tillPickup p b) s = .next (s.turnedAway x .badState 0 [])) ∧
     ((s.books.tills.get t).state.trades = true → x.tab.currenciesEnabled f.list = false →
       exec (.tillPickup p b) s = .next (s.turnedAway x .currencyDisabled 0 [])) ∧
     ((s.books.tills.get t).state.trades = true → x.tab.currenciesEnabled f.list = true →
     (∀ r, s.books.create x.tab x.clock.tod ⟨.pickup, f.number, .till t, f.list⟩
         (pickupMove t (storedList f.list)) = .error r →
       exec (.tillPickup p b) s = .next (s.turnedAway x r 0 [])) ∧
     ∀ bk i, s.books.create x.tab x.clock.tod ⟨.pickup, f.number, .till t, f.list⟩
         (pickupMove t (storedList f.list)) = .ok (bk, i) →
       ∃ k, k = limitCheck x.tab t cls { bk with
           tills := s.books.tills.set t { s.books.tills.get t with
             pickups := min ((s.books.tills.get t).pickups + 1) 65535, lastMove := some x.clock.tod } } ∧
         exec (.tillPickup p b) s = .next (((s.withBooks k.books).accepted x
           (oneByte (k.books.tills.get t).state.code ++ amountBytes k.base ++ twoBytes i.val)).called x k.call))) ∧
  ∀ (s : State) (p : Fin 4) (b : FrameBody) (x : Ctx) (t : Fin 160) (cls : Fin 8) (f : Container),
    s.Heard .tillClose p b x → x.entry.role = .till t cls → readContainer b.payload = some f →
    ((s.books.tills.get t).state.trades = false →
      exec (.tillClose p b) s = .next (s.turnedAway x .badState 0 [])) ∧
    ((s.books.tills.get t).state.trades = true → x.tab.currenciesEnabled f.list = false →
      exec (.tillClose p b) s = .next (s.turnedAway x .currencyDisabled 0 [])) ∧
    ((s.books.tills.get t).state.trades = true → x.tab.currenciesEnabled f.list = true →
    (∀ r, s.books.create x.tab x.clock.tod ⟨.close, f.number, .till t, f.list⟩
        (closeMove s.books.pos t (storedList f.list)) = .error r →
      exec (.tillClose p b) s = .next (s.turnedAway x r 0 [])) ∧
    ∀ bk i, s.books.create x.tab x.clock.tod ⟨.close, f.number, .till t, f.list⟩
        (closeMove s.books.pos t (storedList f.list)) = .ok (bk, i) →
      exec (.tillClose p b) s = .next ((s.withBooks { bk with
          tills := s.books.tills.set t { s.books.tills.get t with
            state := .closed, floatIssued := none, timer := none, closeCalled := false
            lastMove := some x.clock.tod } }).accepted x
        ([0] ++ amountBytes 0 ++ twoBytes i.val ++
          listBytes (subLists (s.books.pos.drawer.get t) (storedList f.list)))))

/-- R74: CLOSE_CALL sets the close-called flag of every trading till that some TILL entry of the ACTIVE bank in its masks
names, and of no other; it queues a CLOSE_CALL frame to each such station that is ADMITTED while its segment's queue has a
free slot; it replies the number of tills called and of frames queued, and changes nothing else. The order of the frames,
by till and then by address, and that a DOWN port takes none, are assumption 24, the number of frames in 2 bytes assumption
38. -/
def Obligations.CloseCallFlagsTheNamedTills : Prop :=
  ∀ (s : State) (c : Command) (f : CloseCall) (calls : Fin 160 → Fin 256 → Bool) (frames : Fin 4 → List TxFrame),
    s.AtHead c 0x07 → readCloseCall c.params = some f → s.ReplyRoom →
    (∀ i a, calls i a = true ↔ (s.books.tills.get i).state.trades = true ∧
      ∃ cls, (s.activeTables.station (BitVec.ofFin a)).role = .till i cls ∧
        (∀ m, f.classes = some m → m.getLsbD cls.val = true) ∧
        (∀ m, f.segments = some m → m.getLsbD (s.activeTables.station (BitVec.ofFin a)).segment.val = true)) →
    (∀ p, frames p = if (s.links.segs.get p).up = true then
      ((List.finRange 160).flatMap fun i => ((List.finRange 256).filter fun a => calls i a &&
          (s.activeTables.station (BitVec.ofFin a)).segment == p && s.admitted (BitVec.ofFin a)).map fun a =>
        (⟨BitVec.ofFin a, 0, 0xF2, oneByte i.val⟩ : TxFrame)).take
          (16 - ((s.links.segs.get p).queue.length + s.segReserved p)) else []) →
    ∃ (R : Tab Till 160) (S : Quad SegPort),
      (∀ i, R.get i = if ∃ a, calls i a = true then { s.books.tills.get i with closeCalled := true }
        else s.books.tills.get i) ∧
      (∀ p, S.get p = { s.links.segs.get p with queue := (s.links.segs.get p).queue ++ frames p }) ∧
      exec .closeCall s = .next (({ s with
          books := { s.books with tills := R }, links := { s.links with segs := S } } : State).completed c none
        (twoBytes ((List.finRange 160).filter fun i => (List.finRange 256).any (calls i)).length ++
          twoBytes ((List.finRange 4).map fun p => (frames p).length).sum))

/-! ## Safes and transfers (chapter 5) -/

/-- R81: DROP_REQUEST, its refusals in order and its grant. R44, R81: the pouch it grants is the live record of its
number, where that is CARRIED. The grant window in 2 bytes, and the layout of the safe's values after the results of R81,
are assumption 21, and pouch counts of 2 bytes assumption 38. R80: the safe's values that every answer carries are its
state, the state and pouch count of A and of B, and its collection-ready flag, in that order (assumptions 21 and 38). -/
def Obligations.DropRequestReservesThePosition : Prop :=
  ((∀ (s : State) (p : Fin 4) (b : FrameBody) (x : Ctx) (i : Fin 16) (n : Nat),
      s.Heard .dropRequest p b x → x.entry.role = .safe i → readContainerNumber b.payload = some n →
      ((s.books.safes.get i).state = .stopped →
        exec (.dropRequest p b) s = .next (s.turnedAway x .safeStopped 0 [])) ∧
      ∀ side, (s.books.safes.get i).state = .running → (s.books.safes.get i).activeSide = some side →
        ((s.books.safes.get i).reservation ≠ none →
          exec (.dropRequest p b) s = .next (s.turnedAway x .safeBusy 0 [])) ∧
        ((s.books.safes.get i).reservation = none →
          (s.books.carriedPouch n = none →
            exec (.dropRequest p b) s = .next (s.turnedAway x .unknownPouch 0 [])) ∧
          ∀ d, s.books.carriedPouch n = some d →
            (40 < ((s.books.safes.get i).bag side).pouches.length + 1 →
              exec (.dropRequest p b) s = .next (s.turnedAway x .safeFull 0 [])) ∧
            (((s.books.safes.get i).bag side).pouches.length + 1 ≤ 40 →
              exec (.dropRequest p b) s = .next ((s.withBooks { s.books with
                  safes := s.books.safes.set i { s.books.safes.get i with
                    reservation := some ⟨n, d, side, x.tab.timing.dropGrant⟩ } }).accepted x
                (oneByte i.val ++ oneByte side.code ++ twoBytes x.tab.timing.dropGrant ++ twoBytes d.val ++
                  (s.books.safes.get i).summary))))) ∧
   ∀ (bk : Books) (n : Nat),
     (∀ i d, bk.deposits.get i = some d → d.state ≠ .closed → d.number = n →
       (∀ j e, j < i → bk.deposits.get j = some e → e.state = .closed ∨ e.number ≠ n) →
       bk.carriedPouch n = if d.state = .carried then some i else none) ∧
     ((∀ i d, bk.deposits.get i = some d → d.state = .closed ∨ d.number ≠ n) → bk.carriedPouch n = none)) ∧
  ∀ f : Safe,
    (f.summary = oneByte f.state.code ++ oneByte f.bagA.state.code ++ twoBytes f.bagA.pouches.length ++
      oneByte f.bagB.state.code ++ twoBytes f.bagB.pouches.length ++
      [if f.bagA.state = .full ∨ f.bagB.state = .full then 1 else 0]) ∧
    ∀ side : BagSide, (f.bag side).state = .active → (f.bag side.other).state ≠ .active → f.activeSide = some side

/-- R83, R84, R85: DROP_DONE and DROP_CANCEL, refused with NOT_GRANTED where no reservation for the pouch stands, and
otherwise against it; and the expiry of its grant timer. R84: the claim of a DROP_DONE is refused with UNKNOWN_POUCH where
the record is EMPTY, CLOSED or another deposit's, and with DEPOSIT_BUSY where it is live in another state. That the swap
test's sources are set before the answer and the forward is assumption 13, the layout of the answers assumption 21, their
pouch counts in 2 bytes assumption 38, that a grant timer has run down at 0 assumption 6, and that the row of one that has
not changes nothing assumption 1. That a DROP_DONE refused with NOT_GRANTED has no forward is assumption 43. -/
def Obligations.ReservationEndsByDropCancelOrExpiry : Prop :=
  (∀ (s : State) (i : Fin 16),
     (∀ (p : Fin 4) (b : FrameBody) (x : Ctx) (n : Nat), s.Heard .dropDone p b x → x.entry.role = .safe i →
       readContainerNumber b.payload = some n →
       ((∀ r, (s.books.safes.get i).reservation = some r → r.number ≠ n) →
         exec (.dropDone p b) s = .next (s.turnedAway x .notGranted 0 [])) ∧
       ∀ r, (s.books.safes.get i).reservation = some r → r.number = n →
         (∀ e, s.books.claimDrop r = .error e →
           exec (.dropDone p b) s = .next ((s.withBooks { s.books with
             safes := s.books.safes.set i { s.books.safes.get i with reservation := none } }).turnedAway x e 0 [])) ∧
         ∀ d, s.books.claimDrop r = .ok d → ∃ g f sources,
           g = ⟨((s.books.safes.get i).bag r.side).state, ((s.books.safes.get i).bag r.side).pouches ++ [r.deposit],
             min (((s.books.safes.get i).bag r.side).value + d.base) 999999999999⟩ ∧
           swapTest (x.tab.safes.get i) r.side
             ({ s.books.safes.get i with reservation := none }.setBag r.side g) = (f, sources) ∧
           exec (.dropDone p b) s = .next (((s.withBooks { s.books with
               deposits := s.books.deposits.set r.deposit
                 (some { d with state := .inSafe, holder := some (.safe i r.side), carry := none })
               safes := s.books.safes.set i f }).setSources sources).accepted x
             (oneByte r.side.code ++ twoBytes g.pouches.length ++ amountBytes g.value ++ f.summary))) ∧
     (∀ (p : Fin 4) (b : FrameBody) (x : Ctx) (n : Nat), s.Heard .dropCancel p b x → x.entry.role = .safe i →
       readContainerNumber b.payload = some n →
       ((∀ r, (s.books.safes.get i).reservation = some r → r.number ≠ n) →
         exec (.dropCancel p b) s = .next (s.turnedAway x .notGranted 0 [])) ∧
       ∀ r, (s.books.safes.get i).reservation = some r → r.number = n →
         exec (.dropCancel p b) s = .next ((s.withBooks { s.books with
             safes := s.books.safes.set i { s.books.safes.get i with reservation := none } }).accepted x
           { s.books.safes.get i with reservation := none }.summary)) ∧
     ∀ r, (s.books.safes.get i).reservation = some r →
       (r.grant = 0 → exec (.grantTimerExpiry i) s = .next (s.withBooks { s.books with
         safes := s.books.safes.set i { s.books.safes.get i with reservation := none } })) ∧
       (r.grant ≠ 0 → exec (.grantTimerExpiry i) s = .next s)) ∧
  ∀ (bk : Books) (r : Reservation),
    (bk.deposits.get r.deposit = none → bk.claimDrop r = .error .unknownPouch) ∧
    ∀ d, bk.deposits.get r.deposit = some d →
      (d.state = .closed ∨ d.number ≠ r.number → bk.claimDrop r = .error .unknownPouch) ∧
      (d.number = r.number → d.state = .carried → bk.claimDrop r = .ok d) ∧
      (d.number = r.number → d.state ≠ .carried → d.state ≠ .closed → bk.claimDrop r = .error .depositBusy)

/-- R86, R87, R88: the swap test, row by row, the sources it sets in the order in which they are set; with two of them a
NOTICE placed at once names the first alone, which is assumption 31. -/
def Obligations.SwapTestRowByRow : Prop :=
  ∀ (e : SafeEntry) (side : BagSide) (f : Safe),
    ((f.bag side).pouches.length ≤ e.threshold → (f.bag side).value ≤ e.valueLimit →
      swapTest e side f = (f, [])) ∧
    ((e.threshold < (f.bag side).pouches.length ∨ (e.valueLimit : Int) < (f.bag side).value) →
      ((f.bag side.other).state ≠ .full →
        (swapTest e side f).2 = [.bagFull] ∧
        ((swapTest e side f).1.bag side) = { f.bag side with state := .full } ∧
        ((swapTest e side f).1.bag side.other) = { f.bag side.other with state := .active } ∧
        (swapTest e side f).1.overfill = false ∧ (swapTest e side f).1.state = f.state) ∧
      ((f.bag side.other).state = .full →
        (e.policy = .overfill → (f.bag side).pouches.length < 40 →
          swapTest e side f = ({ f with overfill := true }, if f.overfill then [] else [.overfill])) ∧
        (e.policy = .stop ∨ 40 ≤ (f.bag side).pouches.length →
          (swapTest e side f).2 = [.bagFull, .safeStopped] ∧ (swapTest e side f).1.state = .stopped ∧
          ((swapTest e side f).1.bag side) = { f.bag side with state := .full } ∧
          ((swapTest e side f).1.bag side.other) = f.bag side.other ∧
          (swapTest e side f).1.overfill = f.overfill)))

/-- R90: BAG_OUT, its refusals in order. R91: it moves the bag and its deposits into the lowest free transfer entry; its
position becomes EMPTY where the other is ACTIVE, and otherwise ACTIVE with an empty bag in a RUNNING safe with OVERFILL clear.
The layout of the answer is assumption 21, and its numbers of pouches in 2 bytes assumption 38. -/
def Obligations.BagOutMovesTheBagToATransfer : Prop :=
  (∀ (s : State) (p : Fin 4) (b : FrameBody) (x : Ctx) (i : Fin 16) (q : BagOut),
     s.Heard .bagOut p b x → x.entry.role = .safe i → readBagOut b.payload = some q →
     (x.safeStaff q.staff = false →
       exec (.bagOut p b) s =
         .next ((s.turnedAway x .staffNotPermitted 0 []).report x.src (.s x.port) x.kind .staffNotPermitted)) ∧
     (x.safeStaff q.staff = true →
       ((s.books.safes.get i).bag q.side).state = .empty ∨ ((s.books.safes.get i).bag q.side).pouches = [] ∨
         (∃ r, (s.books.safes.get i).reservation = some r ∧ r.side = q.side) →
       exec (.bagOut p b) s = .next (s.turnedAway x .badState 0 [])) ∧
     (x.safeStaff q.staff = true → ((s.books.safes.get i).bag q.side).state ≠ .empty →
       ((s.books.safes.get i).bag q.side).pouches ≠ [] →
       (∀ r, (s.books.safes.get i).reservation = some r → r.side ≠ q.side) →
       ((∀ t, s.books.transfers.get t ≠ none) →
         exec (.bagOut p b) s = .next (s.turnedAway x .transferFull 0 [])) ∧
       ((∃ t, s.books.transfers.get t = none) → (∃ u e, s.books.transfers.get u = some e ∧ e.bag = q.bag) →
         exec (.bagOut p b) s = .next (s.turnedAway x .duplicateNumber 0 []))) ∧
     (x.safeStaff q.staff = true → ((s.books.safes.get i).bag q.side).state ≠ .empty →
       ((s.books.safes.get i).bag q.side).pouches ≠ [] →
       (∀ r, (s.books.safes.get i).reservation = some r → r.side ≠ q.side) →
       ∀ t : Fin 32, s.books.transfers.get t = none → (∀ u, u < t → s.books.transfers.get u ≠ none) →
       (∀ u e, s.books.transfers.get u = some e → e.bag ≠ q.bag) →
       exec (.bagOut p b) s = .next ((s.withBooks { s.books with
           deposits := s.books.deposits.mapIx fun j d =>
             if ((s.books.safes.get i).bag q.side).pouches.contains j then
               d.map fun d => { d with state := .inTransfer, holder := some (.transfer t) } else d
           safes := s.books.safes.set i ((s.books.safes.get i).bagTaken q.side)
           transfers := s.books.transfers.set t (some
             { bag := q.bag, safe := i, side := q.side, deposits := ((s.books.safes.get i).bag q.side).pouches
               value := ((s.books.safes.get i).bag q.side).value, staff := q.staff, timeOut := x.clock.tod
               timer := some ⟨x.tab.timing.carryTransfer * 60, x.tab.timing.carryTransfer * 60⟩, late := false }) }
           ).accepted x
         (oneByte t.val ++ twoBytes ((s.books.safes.get i).bag q.side).pouches.length ++
           amountBytes ((s.books.safes.get i).bag q.side).value ++
           ((s.books.safes.get i).bagTaken q.side).summary)))) ∧
  ∀ (f g : Safe) (side : BagSide), g = f.bagTaken side →
    g.bag side.other = f.bag side.other ∧ g.reservation = f.reservation ∧
    ((f.bag side.other).state = .active →
      g.bag side = ⟨.empty, [], 0⟩ ∧ g.state = f.state ∧ g.overfill = f.overfill) ∧
    ((f.bag side.other).state ≠ .active →
      g.bag side = ⟨.active, [], 0⟩ ∧ g.state = .running ∧ g.overfill = false)

/-- R94, R95: BAG_IN brings a transfer's deposits to AWAITING_COUNT and frees its entry, or is refused and reported; the
expiry of a transfer timer makes it LATE. R96: POUCH_IN books a CARRIED pouch in, keeping its OVERDUE flag, or is refused.
The presence byte before the safe's values is assumption 21, that a transfer timer has run down at 0 assumption 6, and that
the row of one that has not changes nothing assumption 1. -/
def Obligations.TransfersAndPouchesComeIn : Prop :=
  (∀ (s : State) (p : Fin 4) (b : FrameBody) (x : Ctx) (q : Received), s.Heard .bagIn p b x →
     x.entry.role = .receiving → readReceived b.payload = some q →
     (x.safeStaff q.staff = false →
       exec (.bagIn p b) s =
         .next ((s.turnedAway x .staffNotPermitted 0 []).report x.src (.s x.port) x.kind .staffNotPermitted)) ∧
     (x.safeStaff q.staff = true →
       ((∀ u f, s.books.transfers.get u = some f → f.bag ≠ q.number) →
         exec (.bagIn p b) s =
           .next ((s.turnedAway x .unknownNumber 0 []).report x.src (.s x.port) x.kind .unknownNumber)) ∧
       ∀ t e, s.books.transfers.get t = some e → e.bag = q.number →
         (∀ u f, u < t → s.books.transfers.get u = some f → f.bag ≠ q.number) →
         exec (.bagIn p b) s = .next ((s.withBooks { s.books with
             deposits := s.books.deposits.mapIx fun j d =>
               if e.deposits.contains j then d.map fun d => { d with state := .awaitingCount, holder := none } else d
             transfers := s.books.transfers.set t none }).accepted x
           (oneByte t.val ++ oneByte e.safe.val ++ oneByte e.side.code ++ twoBytes e.deposits.length ++
             amountBytes e.value ++ flagByte e.late ++ [1] ++ (s.books.safes.get e.safe).summary)))) ∧
  (∀ (s : State) (t : Fin 32) (e : Transfer) (k : Timer), s.books.transfers.get t = some e → e.timer = some k →
     (k.remaining = 0 → exec (.transferTimerExpiry t) s = .next ((s.withBooks { s.books with
       transfers := s.books.transfers.set t (some { e with timer := none, late := true }) }).setSource
         .transferLate)) ∧
     (k.remaining ≠ 0 → exec (.transferTimerExpiry t) s = .next s)) ∧
  ∀ (s : State) (p : Fin 4) (b : FrameBody) (x : Ctx) (q : Received),
    s.Heard .pouchIn p b x → x.entry.role = .receiving → readReceived b.payload = some q →
    (x.safeStaff q.staff = false →
      exec (.pouchIn p b) s =
        .next ((s.turnedAway x .staffNotPermitted 0 []).report x.src (.s x.port) x.kind .staffNotPermitted)) ∧
    (x.safeStaff q.staff = true →
      (s.books.findLive q.number = none →
        exec (.pouchIn p b) s = .next (s.turnedAway x .unknownPouch 0 [])) ∧
      ∀ i d, s.books.findLive q.number = some i → s.books.deposits.get i = some d →
        (d.state = .carried →
          exec (.pouchIn p b) s = .next ((s.withBooks { s.books with
              deposits := s.books.deposits.set i
                (some { d with state := .awaitingCount, holder := none, carry := none }) }).accepted x
            (twoBytes i.val ++ flagByte d.overdue ++ [0]))) ∧
        (d.state ≠ .carried → d.state ≠ .closed →
          exec (.pouchIn p b) s = .next (s.turnedAway x .depositBusy 0 [])))

/-! ## Lanes (chapter 6) -/

/-- R104, R105: COUNT_OPEN claims the deposit and opens the lane with no counts. -/
def Obligations.CountOpenOpensTheLane : Prop :=
  ∀ (s : State) (p : Fin 4) (b : FrameBody) (x : Ctx) (l : Fin 6) (q : DepositStaff),
    s.Heard .countOpen p b x → x.entry.role = .counter l → readDepositStaff b.payload = some q →
    ((s.books.lanes.get l).session ≠ none →
      exec (.countOpen p b) s = .next (s.turnedAway x .laneBusy 0 [])) ∧
    ((s.books.lanes.get l).session = none →
      (x.tab.staffPasses q.staff x.entry.domain (·.counter) = false →
        exec (.countOpen p b) s =
          .next ((s.turnedAway x .staffNotPermitted 0 []).report x.src (.s x.port) x.kind .staffNotPermitted)) ∧
      (x.tab.staffPasses q.staff x.entry.domain (·.counter) = true →
        (s.books.deposits.get q.deposit = none →
          exec (.countOpen p b) s = .next (s.turnedAway x .unknownDeposit 0 [])) ∧
        ∀ d, s.books.deposits.get q.deposit = some d →
          (d.state = .closed → exec (.countOpen p b) s = .next (s.turnedAway x .unknownDeposit 0 [])) ∧
          (d.state ≠ .awaitingCount → d.state ≠ .closed →
            exec (.countOpen p b) s = .next (s.turnedAway x .depositBusy 0 [])) ∧
          (d.state = .awaitingCount →
            exec (.countOpen p b) s = .next ((s.withBooks { s.books with
                deposits := s.books.deposits.set q.deposit (some
                  { d with state := .counting, holder := some (.lane l), countingStaff := some q.staff })
                lanes := s.books.lanes.set l ⟨some ⟨q.deposit, q.staff,
                  ⟨x.tab.timing.sessionIdle * 60, x.tab.timing.sessionIdle * 60⟩⟩,
                  Tab.const 32 0, Tab.const 32 0, []⟩ }).accepted x
              (oneByte l.val ++ [1] ++ twoBytes q.deposit.val ++ oneByte d.kind.code ++ fourBytes d.number)))))

/-- R107: COUNT_DATA in an IDLE lane is refused, and otherwise walks its records in order: the first that fails refuses the
frame with its reason and its place. Checks 1 to 4 decide the entry a record becomes, the fifth the length of the open
bundle, the sixth the totals of a commit. R108: an end-of-bundle record adds every entry of the bundle to its denomination's
total. R109: where every record passes, the working bundle and counts become the lane's. The order of the answer's fields is
assumption 21, and the number of bundles committed in 2 bytes assumption 38. -/
def Obligations.CountDataAndItsRecords : Prop :=
  (∀ (s : State) (p : Fin 4) (b : FrameBody) (x : Ctx) (l : Fin 6) (rs : List CountRecord),
     s.Heard .countData p b x → x.entry.role = .counter l → readCountData b.payload = some rs →
     ((s.books.lanes.get l).session = none →
       exec (.countData p b) s = .next (s.turnedAway x .badState 0 [])) ∧
     ∀ ss, (s.books.lanes.get l).session = some ss →
       (∀ r n, walkRecords x.tab 1 ⟨(s.books.lanes.get l).counts, (s.books.lanes.get l).suspects,
           (s.books.lanes.get l).bundle, 0⟩ rs = .error (r, n) →
         exec (.countData p b) s = .next (s.turnedAway x r n [])) ∧
       ∀ w, walkRecords x.tab 1 ⟨(s.books.lanes.get l).counts, (s.books.lanes.get l).suspects,
           (s.books.lanes.get l).bundle, 0⟩ rs = .ok w →
         exec (.countData p b) s = .next ((s.withBooks { s.books with
             lanes := s.books.lanes.set l ⟨some { ss with
               idle := ⟨x.tab.timing.sessionIdle * 60, x.tab.timing.sessionIdle * 60⟩ },
               w.counts, w.suspects, w.bundle⟩ }).accepted x
           (oneByte l.val ++ [1] ++ twoBytes rs.length ++ twoBytes w.committed ++ twoBytes w.bundle.length))) ∧
  (∀ (T : Tables) (w : Working),
     walkRecords T 1 w [] = .ok w ∧
     ∀ (before : List CountRecord) (r : CountRecord) (w' : Working), walkRecords T 1 w before = .ok w' →
       (∀ e rest, w'.take T r = .error e →
         walkRecords T 1 w (before ++ r :: rest) = .error (e, before.length + 1)) ∧
       ∀ w'', w'.take T r = .ok w'' → walkRecords T 1 w (before ++ [r]) = .ok w'') ∧
  (∀ (T : Tables) (r : CountRecord) (d : Denom), d = T.denoms.get r.denom →
     (d.valid = false → T.takeRecord r = .error .badState) ∧
     (d.valid = true →
       ((T.rate d.currency).enabled = false → T.takeRecord r = .error .currencyDisabled) ∧
       ((T.rate d.currency).enabled = true →
         ((r.kind = .note ∨ r.kind = .suspect) →
           (d.form = .coin → T.takeRecord r = .error .badState) ∧
           (d.form = .note →
             T.takeRecord r = .ok ⟨if r.kind = .note then .note else .suspect, r.denom, r.value⟩)) ∧
         (r.kind = .coin →
           (d.form = .note → T.takeRecord r = .error .badState) ∧
           (d.form = .coin → T.takeRecord r = .ok ⟨.coin, r.denom, r.value⟩)) ∧
         (r.kind = .weigh →
           (d.form = .note → T.takeRecord r = .error .badState) ∧
           (d.form = .coin →
             (d.calibrated = false ∨ d.refRead ≤ d.zeroRead → T.takeRecord r = .error .uncalibrated) ∧
             (d.calibrated = true → d.zeroRead < d.refRead →
               T.takeRecord r = .ok ⟨.coin, r.denom, weighCount d.zeroRead d.refRead d.refCount r.value⟩)))))) ∧
  ∀ (T : Tables) (w : Working) (r : CountRecord),
    (∀ e, T.takeRecord r = .error e → w.take T r = .error e) ∧
    ∀ e, T.takeRecord r = .ok e →
      (64 < w.bundle.length + 1 → w.take T r = .error .bundleTooLong) ∧
      (w.bundle.length + 1 ≤ 64 → r.last = false →
        w.take T r = .ok { w with bundle := w.bundle ++ [e] }) ∧
      (w.bundle.length + 1 ≤ 64 → r.last = true → ∀ C S : Tab Nat 32,
        (∀ d, C.get d = w.counts.get d +
            (((w.bundle ++ [e]).filter fun b => b.kind != .suspect && b.denom == d).map BundleEntry.count).sum ∧
          S.get d = w.suspects.get d +
            (((w.bundle ++ [e]).filter fun b => b.kind == .suspect && b.denom == d).map BundleEntry.count).sum) →
        ((∃ d, 9999999 < C.get d ∨ 9999999 < S.get d) → w.take T r = .error .countLimit) ∧
        ((∀ d, C.get d ≤ 9999999 ∧ S.get d ≤ 9999999) → w.take T r = .ok ⟨C, S, [], w.committed + 1⟩))

/-- R110, R111, R112: in an IDLE lane COUNT_RECOUNT and COUNT_ABORT are refused with BAD_STATE; in an OPEN one COUNT_RECOUNT
clears the counts, and COUNT_ABORT and the idle timer's expiry end the session without a result, the expiry setting its
source. The order of the answers' fields is assumption 21, the number of denominations in 2 bytes assumption 38, that an idle
timer has run down at 0 assumption 6, and that the row of one that has not changes nothing assumption 1. -/
def Obligations.RecountAbortAndIdleExpiry : Prop :=
  (∀ (s : State) (l : Fin 6) (p : Fin 4) (b : FrameBody) (x : Ctx), (s.books.lanes.get l).session = none →
     x.entry.role = .counter l → b.payload = [] →
     (s.Heard .countRecount p b x → exec (.countRecount p b) s = .next (s.turnedAway x .badState 0 [])) ∧
     (s.Heard .countAbort p b x → exec (.countAbort p b) s = .next (s.turnedAway x .badState 0 []))) ∧
  ∀ (s : State) (l : Fin 6) (ss : Session), (s.books.lanes.get l).session = some ss →
    (∀ (p : Fin 4) (b : FrameBody) (x : Ctx), s.Heard .countRecount p b x → x.entry.role = .counter l →
      b.payload = [] →
      exec (.countRecount p b) s = .next ((s.withBooks { s.books with
          lanes := s.books.lanes.set l ⟨some { ss with
            idle := ⟨x.tab.timing.sessionIdle * 60, x.tab.timing.sessionIdle * 60⟩ },
            Tab.const 32 0, Tab.const 32 0, []⟩ }).accepted x
        (oneByte l.val ++ [1] ++ twoBytes (s.books.lanes.get l).bundle.length ++
          twoBytes ((List.finRange 32).filter fun d => (s.books.lanes.get l).counts.get d != 0 ||
            (s.books.lanes.get l).suspects.get d != 0).length))) ∧
    (∀ (p : Fin 4) (b : FrameBody) (x : Ctx) (d : Deposit), s.Heard .countAbort p b x →
      x.entry.role = .counter l → b.payload = [] → s.books.deposits.get ss.deposit = some d →
      exec (.countAbort p b) s = .next ((s.withBooks { s.books with
          deposits := s.books.deposits.set ss.deposit
            (some { d with state := .awaitingCount, holder := none, countingStaff := none })
          lanes := s.books.lanes.set l Lane.idle }).accepted x
        (oneByte l.val ++ [0] ++ twoBytes ss.deposit.val))) ∧
    (∀ d, s.books.deposits.get ss.deposit = some d →
      (ss.idle.remaining = 0 →
        exec (.idleTimerExpiry l) s = .next ((s.withBooks { s.books with
          deposits := s.books.deposits.set ss.deposit
            (some { d with state := .awaitingCount, holder := none, countingStaff := none })
          lanes := s.books.lanes.set l Lane.idle }).setSource .sessionExpired)) ∧
      (ss.idle.remaining ≠ 0 → exec (.idleTimerExpiry l) s = .next s))

/-- R114, R115: COUNT_CLOSE in an IDLE lane is refused with BAD_STATE; in an OPEN one it values the counts, moves the cash,
and closes the deposit or makes it DISCREPANT. That the discrepant deposit source is set before the answer and the forward
is assumption 13, and that the answer always ends with its SATURATED byte assumption 21. -/
def Obligations.CountCloseDecidesTheDeposit : Prop :=
  (∀ (s : State) (p : Fin 4) (b : FrameBody) (x : Ctx) (l : Fin 6), s.Heard .countClose p b x →
     x.entry.role = .counter l → b.payload = [] → (s.books.lanes.get l).session = none →
     exec (.countClose p b) s = .next (s.turnedAway x .badState 0 [])) ∧
  ∀ (s : State) (p : Fin 4) (b : FrameBody) (x : Ctx) (l : Fin 6) (ss : Session) (d : Deposit),
    s.Heard .countClose p b x → x.entry.role = .counter l → b.payload = [] →
    (s.books.lanes.get l).session = some ss → s.books.deposits.get ss.deposit = some d →
    ((s.books.lanes.get l).bundle ≠ [] →
      exec (.countClose p b) s = .next (s.turnedAway x .openBundle 0 [])) ∧
    ((s.books.lanes.get l).bundle = [] →
      (∀ r, x.tab.closeValue x.entry.domain d.declared (s.books.lanes.get l).counts
          (s.books.lanes.get l).suspects = .error r →
        exec (.countClose p b) s = .next (s.turnedAway x r 0 [])) ∧
      ∀ v, x.tab.closeValue x.entry.domain d.declared (s.books.lanes.get l).counts
          (s.books.lanes.get l).suspects = .ok v →
        (∀ r, s.books.pos.present (countCloseMove d.declared v.result.counted v.result.suspect) = .error r →
          exec (.countClose p b) s = .next (s.turnedAway x r 0 [])) ∧
        ∀ q, s.books.pos.present (countCloseMove d.declared v.result.counted v.result.suspect) = .ok q →
          (((v.result.verdict = .balanced ∨ v.result.verdict = .within) ∧ ∀ c, v.result.suspect.get c = 0) →
            exec (.countClose p b) s = .next ((s.withBooks { s.books with
                pos := q
                deposits := s.books.deposits.set ss.deposit (some { d with
                  state := .closed, outcome := some .counted, holder := none, result := some v.result
                  closed := some x.clock.tod })
                closeOrder := s.books.closeOrder ++ [ss.deposit]
                lanes := s.books.lanes.set l Lane.idle }).accepted x
              (oneByte l.val ++ [0] ++ twoBytes ss.deposit.val ++ [0] ++ oneByte v.result.verdict.code ++
                listBytes v.result.counted ++ listBytes v.result.suspect ++ amountBytes v.result.variance ++
                amountBytes v.allowed ++ flagByte v.saturated))) ∧
          (((v.result.verdict = .short ∨ v.result.verdict = .over) ∨ ∃ c, v.result.suspect.get c ≠ 0) →
            exec (.countClose p b) s = .next (((s.withBooks { s.books with
                pos := q
                deposits := s.books.deposits.set ss.deposit (some { d with
                  state := .discrepant, holder := none, result := some v.result })
                lanes := s.books.lanes.set l Lane.idle }).setSource .discrepantDeposit).accepted x
              (oneByte l.val ++ [0] ++ twoBytes ss.deposit.val ++ [1] ++ oneByte v.result.verdict.code ++
                listBytes v.result.counted ++ listBytes v.result.suspect ++ amountBytes v.result.variance ++
                amountBytes v.allowed ++ flagByte v.saturated))))

/-- R119, R120: RELEASE, its staff checks and its claim in order, an EMPTY record and a CLOSED one refused with
UNKNOWN_DEPOSIT. That its answer carries no lane state, as it carries no lane index, is assumption 21. R89, R104, R119,
R136: a staff check passes where the id is not 0 and some STAFF entry holds it with the station's domain in its set and
the flag asked for; the Safe Unit's asks for no flag. -/
def Obligations.ReleaseClosesADiscrepantDeposit : Prop :=
  (∀ (s : State) (p : Fin 4) (b : FrameBody) (x : Ctx) (q : DepositStaff),
     s.Heard .release p b x → x.entry.role = .supervisor → readDepositStaff b.payload = some q →
     (x.tab.staffPasses q.staff x.entry.domain (·.supervisor) = false →
       exec (.release p b) s =
         .next ((s.turnedAway x .staffNotPermitted 0 []).report x.src (.s x.port) x.kind .staffNotPermitted)) ∧
     (x.tab.staffPasses q.staff x.entry.domain (·.supervisor) = true →
       (s.books.deposits.get q.deposit = none →
         exec (.release p b) s = .next (s.turnedAway x .unknownDeposit 0 [])) ∧
       ∀ d, s.books.deposits.get q.deposit = some d →
         (d.countingStaff = some q.staff →
           exec (.release p b) s =
             .next ((s.turnedAway x .sameStaff 0 []).report x.src (.s x.port) x.kind .sameStaff)) ∧
         (d.countingStaff ≠ some q.staff →
           (d.state = .closed → exec (.release p b) s = .next (s.turnedAway x .unknownDeposit 0 [])) ∧
           (d.state ≠ .discrepant → d.state ≠ .closed →
             exec (.release p b) s = .next (s.turnedAway x .badState 0 [])) ∧
           ∀ r, d.state = .discrepant → d.result = some r →
             exec (.release p b) s = .next ((s.withBooks { s.books with
                 deposits := s.books.deposits.set q.deposit (some { d with
                   state := .closed, outcome := some .released, holder := none, closed := some x.clock.tod
                   releasingStaff := some q.staff })
                 closeOrder := s.books.closeOrder ++ [q.deposit] }).accepted x
               (twoBytes q.deposit.val ++ oneByte r.verdict.code ++ amountBytes r.variance))))) ∧
  (∀ (T : Tables) (id : Nat) (domain : Fin 8) (flag : StaffEntry → Bool),
     T.staffPasses id domain flag = true ↔
       id ≠ 0 ∧ ∃ i, (T.staff.get i).id = id ∧ (T.staff.get i).domains.getLsbD domain.val = true ∧
         flag (T.staff.get i) = true) ∧
  ∀ (x : Ctx) (id : Nat), x.safeStaff id = true ↔
    id ≠ 0 ∧ ∃ i, (x.tab.staff.get i).id = id ∧ (x.tab.staff.get i).domains.getLsbD x.entry.domain.val = true

/-! ## Consignments and docks (chapter 7) -/

/-- R125 to R128, R130: creating a consignment, adding to it, taking an item out of it, and cancelling it, each with its
refusals in order; an item taken out leaves the others in their order, and an emptied consignment is BUILDING. R129:
CONSIGN_READY makes a BUILDING consignment with an item READY; in any other case it is refused with BAD_STATE, and a
consignment that is not BUILDING takes no load and no addition. The bag items and the deposit items are those of its list,
in list order. -/
def Obligations.ConsignmentsAreBuiltAndUnloaded : Prop :=
  (((∀ (s : State) (c : Command), s.ReplyRoom →
       (∀ k, s.AtHead c 0x0F → readIndex 8 c.params = some k →
         ((s.books.consigns.get k).state = .building → (s.books.consigns.get k).items ≠ [] →
           exec .consignReady s = .next ((s.withBooks { s.books with
             consigns := s.books.consigns.set k { s.books.consigns.get k with state := .ready } }).completed c none
               [])) ∧
         ((s.books.consigns.get k).state ≠ .building ∨ (s.books.consigns.get k).items = [] →
           exec .consignReady s = .next (s.completed c (some .badState) []))) ∧
       (∀ q, s.AtHead c 0x0C → readConsignLoad c.params = some q →
         (s.books.consigns.get q.consignment).state ≠ .building →
         exec .consignLoad s = .next (s.completed c (some .badState) [])) ∧
       (∀ q, s.AtHead c 0x0D → readConsignAdd c.params = some q →
         (s.books.consigns.get q.consignment).state ≠ .building →
         exec .consignAdd s = .next (s.completed c (some .badState) []))) ∧
    (∀ (s : State) (c : Command), s.ReplyRoom →
       (∀ d k, s.AtHead c 0x0B → readIndex 2 c.params = some d → (s.books.consigns.get k).state = .free →
         (∀ j, j < k → (s.books.consigns.get j).state ≠ .free) →
         exec .consignCreate s = .next ((s.withBooks { s.books with
           consigns := s.books.consigns.set k ⟨.building, some d, []⟩ }).completed c none (oneByte k.val))) ∧
       (∀ q, s.AtHead c 0x0C → readConsignLoad c.params = some q →
         (s.books.consigns.get q.consignment).state = .building →
         (s.books.consigns.get q.consignment).items.length < 48 →
         s.activeTables.currenciesEnabled q.list = true → s.books.numberInUse q.bag = false →
         ∀ pos, s.books.pos.present (loadMove q.consignment q.source (storedList q.list)) = .ok pos →
         exec .consignLoad s = .next ((s.withBooks { s.books with
             pos := pos
             consigns := s.books.consigns.set q.consignment { s.books.consigns.get q.consignment with
               items := (s.books.consigns.get q.consignment).items ++
                 [⟨.bag q.bag q.source (storedList q.list), false⟩] } }).completed c none
           (twoBytes ((s.books.consigns.get q.consignment).items.length + 1) ++
             listBytes (pos.loaded.get q.consignment)))) ∧
       (∀ q d, s.AtHead c 0x0D → readConsignAdd c.params = some q →
         (s.books.consigns.get q.consignment).state = .building →
         (s.books.consigns.get q.consignment).items.length < 48 →
         s.books.deposits.get q.deposit = some d → d.state = .awaitingCount →
         exec .consignAdd s = .next ((s.withBooks { s.books with
             deposits := s.books.deposits.set q.deposit
               (some { d with state := .consigned, holder := some (.consignment q.consignment) })
             consigns := s.books.consigns.set q.consignment { s.books.consigns.get q.consignment with
               items := (s.books.consigns.get q.consignment).items ++ [⟨.deposit q.deposit, false⟩] } }).completed c
           none (twoBytes ((s.books.consigns.get q.consignment).items.length + 1) ++ fourBytes d.number)))) ∧
    ∀ (s : State) (c : Command), s.ReplyRoom →
      (∀ q l n src a, s.AtHead c 0x0E → readConsignRemove c.params = some q →
        ((s.books.consigns.get q.consignment).state = .building ∨
          (s.books.consigns.get q.consignment).state = .ready) →
        (s.books.consigns.get q.consignment).items.find? (fun l => q.item.names l.item) = some l →
        l.item = .bag n src a →
        ∀ pos, s.books.pos.present (unloadMove q.consignment [(src, a)]) = .ok pos →
        exec .consignRemove s = .next ((s.withBooks { s.books with
            pos := pos
            consigns := s.books.consigns.set q.consignment
              ((s.books.consigns.get q.consignment).without l) }).completed c none
          (twoBytes ((s.books.consigns.get q.consignment).without l).items.length ++
            oneByte ((s.books.consigns.get q.consignment).without l).state.code))) ∧
      (∀ q l i d, s.AtHead c 0x0E → readConsignRemove c.params = some q →
        ((s.books.consigns.get q.consignment).state = .building ∨
          (s.books.consigns.get q.consignment).state = .ready) →
        (s.books.consigns.get q.consignment).items.find? (fun l => q.item.names l.item) = some l →
        l.item = .deposit i → s.books.deposits.get i = some d →
        exec .consignRemove s = .next ((s.withBooks { s.books with
            deposits := s.books.deposits.set i
              (some { d with state := .awaitingCount, holder := none, countingStaff := none })
            consigns := s.books.consigns.set q.consignment
              ((s.books.consigns.get q.consignment).without l) }).completed c none
          (twoBytes ((s.books.consigns.get q.consignment).without l).items.length ++
            oneByte ((s.books.consigns.get q.consignment).without l).state.code))) ∧
      (∀ k, s.AtHead c 0x10 → readIndex 8 c.params = some k →
        ((s.books.consigns.get k).state = .atDock →
          exec .consignCancel s = .next (s.completed c (some .consignmentAtDock) [])) ∧
        ((s.books.consigns.get k).state = .building ∨ (s.books.consigns.get k).state = .ready →
          ∀ pos, s.books.pos.present (unloadMove k (s.books.consigns.get k).bagItems) = .ok pos →
          exec .consignCancel s = .next ((s.withBooks { s.books with
              pos := pos
              deposits := s.books.deposits.mapIx fun i d =>
                if (s.books.consigns.get k).depositItems.contains i then
                  d.map fun d => { d with state := .awaitingCount, holder := none, countingStaff := none } else d
              consigns := s.books.consigns.set k ⟨.free, none, []⟩ }).completed c none
            (twoBytes (s.books.consigns.get k).bagItems.length ++
              twoBytes (s.books.consigns.get k).depositItems.length))))) ∧
   (∀ (s : State) (c : Command), s.ReplyRoom →
      (∀ d, s.AtHead c 0x0B → readIndex 2 c.params = some d → (∀ k, (s.books.consigns.get k).state ≠ .free) →
        exec .consignCreate s = .next (s.completed c (some .consignmentFull) [])) ∧
      (∀ q, s.AtHead c 0x0C → readConsignLoad c.params = some q →
        (s.books.consigns.get q.consignment).state = .building →
        (48 ≤ (s.books.consigns.get q.consignment).items.length →
          exec .consignLoad s = .next (s.completed c (some .consignmentFull) [])) ∧
        ((s.books.consigns.get q.consignment).items.length < 48 →
          (s.activeTables.currenciesEnabled q.list = false →
            exec .consignLoad s = .next (s.completed c (some .currencyDisabled) [])) ∧
          (s.activeTables.currenciesEnabled q.list = true →
            (s.books.numberInUse q.bag = true →
              exec .consignLoad s = .next (s.completed c (some .duplicateNumber) [])) ∧
            (s.books.numberInUse q.bag = false →
              ∀ r, s.books.pos.present (loadMove q.consignment q.source (storedList q.list)) = .error r →
                exec .consignLoad s = .next (s.completed c (some r) []))))) ∧
      (∀ q, s.AtHead c 0x0D → readConsignAdd c.params = some q →
        (s.books.consigns.get q.consignment).state = .building →
        (48 ≤ (s.books.consigns.get q.consignment).items.length →
          exec .consignAdd s = .next (s.completed c (some .consignmentFull) [])) ∧
        ((s.books.consigns.get q.consignment).items.length < 48 →
          (s.books.deposits.get q.deposit = none →
            exec .consignAdd s = .next (s.completed c (some .unknownDeposit) [])) ∧
          ∀ d, s.books.deposits.get q.deposit = some d →
            (d.state = .closed → exec .consignAdd s = .next (s.completed c (some .unknownDeposit) [])) ∧
            (d.state ≠ .awaitingCount → d.state ≠ .closed →
              exec .consignAdd s = .next (s.completed c (some .depositBusy) [])))) ∧
      (∀ q, s.AtHead c 0x0E → readConsignRemove c.params = some q →
        ((s.books.consigns.get q.consignment).state ≠ .building →
          (s.books.consigns.get q.consignment).state ≠ .ready →
          exec .consignRemove s = .next (s.completed c (some .badState) [])) ∧
        ((s.books.consigns.get q.consignment).state = .building ∨
            (s.books.consigns.get q.consignment).state = .ready →
          (∀ n, q.item = .bag n →
            (∀ l ∈ (s.books.consigns.get q.consignment).items, ∀ src a, l.item ≠ .bag n src a) →
            exec .consignRemove s = .next (s.completed c (some .unknownNumber) [])) ∧
          (∀ i, q.item = .deposit i →
            (∀ l ∈ (s.books.consigns.get q.consignment).items, l.item ≠ .deposit i) →
            exec .consignRemove s = .next (s.completed c (some .unknownDeposit) [])) ∧
          ∀ l n src a r,
            (s.books.consigns.get q.consignment).items.find? (fun l => q.item.names l.item) = some l →
            l.item = .bag n src a → s.books.pos.present (unloadMove q.consignment [(src, a)]) = .error r →
            exec .consignRemove s = .next (s.completed c (some r) []))) ∧
      (∀ k, s.AtHead c 0x10 → readIndex 8 c.params = some k →
        ((s.books.consigns.get k).state = .free →
          exec .consignCancel s = .next (s.completed c (some .badState) [])) ∧
        ((s.books.consigns.get k).state = .building ∨ (s.books.consigns.get k).state = .ready →
          ∀ r, s.books.pos.present (unloadMove k (s.books.consigns.get k).bagItems) = .error r →
            exec .consignCancel s = .next (s.completed c (some r) [])))) ∧
   (∀ (n m : Nat) (src : BagSource) (a : Amounts) (i j : Fin 512),
      ((ItemName.bag n).names (.bag m src a) = true ↔ n = m) ∧ ((ItemName.deposit i).names (.deposit j) = true ↔ i = j) ∧
      (ItemName.bag n).names (.deposit j) = false ∧ (ItemName.deposit i).names (.bag m src a) = false) ∧
   ∀ (c : Consignment) (before after : List ConsignLine) (l : ConsignLine),
     c.items = before ++ l :: after → l ∉ before →
     c.without l = { c with
       items := before ++ after, state := if before ++ after = [] then .building else c.state }) ∧
  ∀ c : Consignment, (c.items = [] → c.bagItems = [] ∧ c.depositItems = []) ∧
    ∀ l rest, c.items = l :: rest →
      (∀ n src a, l.item = .bag n src a → c.bagItems = (src, a) :: { c with items := rest }.bagItems ∧
        c.depositItems = { c with items := rest }.depositItems) ∧
      ∀ i, l.item = .deposit i → c.bagItems = { c with items := rest }.bagItems ∧
        c.depositItems = i :: { c with items := rest }.depositItems

/-- R133: ARRIVE_BEACON in IDLE checks the courier, the clock and the window in that order, each failure a dock fault, and
with all passed starts a qualification. R134: in QUALIFYING one from the qualifying courier restarts the gap timer, and
one from another is checked as in IDLE and starts the qualification afresh; from ARRIVED to DEPARTING it is accepted and
ignored. R134: the end of an arrival qualification, by the mode of the dock, and of its beacon gap. That each of the two
timers has run down at 0, so that with both at 0, where they fall together, either expiry may be taken, is assumption 6;
that the row of one that has not run down changes nothing is assumption 1. R133, R178: a courier is known where the id is
not 0 and some COURIER entry holds it with its valid flag set. -/
def Obligations.ArrivalQualification : Prop :=
  ((∀ (s : State) (p : Fin 4) (b : FrameBody) (x : Ctx) (d : Fin 2) (n : Nat),
      s.Heard .arriveBeacon p b x → x.entry.role = .dock d → readId b.payload = some n →
      ((s.books.docks.get d).state = .idle ∨
          ((s.books.docks.get d).state = .qualifying ∧ ∀ v, (s.books.docks.get d).visit = some v → v.courier ≠ n) →
        (x.tab.courierValid n = false →
          exec (.arriveBeacon p b) s = .next ((s.turnedAway x .courierUnknown 0 []).raiseDockFault x.tab.timing d
            x.src x.port x.kind .courierUnknown)) ∧
        (x.tab.courierValid n = true → s.clock.unset = true →
          exec (.arriveBeacon p b) s = .next ((s.turnedAway x .timeUnset 0 []).raiseDockFault x.tab.timing d
            x.src x.port x.kind .timeUnset)) ∧
        (x.tab.courierValid n = true → s.clock.unset = false →
          ((∀ i, i.val / 8 = d.val → (x.tab.schedule.get i).used = true →
              s.clock.tod < (x.tab.schedule.get i).start ∨ (x.tab.schedule.get i).stop ≤ s.clock.tod) →
            exec (.arriveBeacon p b) s = .next ((s.turnedAway x .outsideWindow 0 []).raiseDockFault x.tab.timing d
              x.src x.port x.kind .outsideWindow)) ∧
          ∀ i, i.val / 8 = d.val → (x.tab.schedule.get i).used = true →
            (x.tab.schedule.get i).start ≤ s.clock.tod → s.clock.tod < (x.tab.schedule.get i).stop →
            exec (.arriveBeacon p b) s = .next ((s.withBooks { s.books with
              docks := s.books.docks.set d { s.books.docks.get d with
                state := .qualifying, visit := some ⟨x.src, x.port, n, x.kind⟩
                qualify := some ⟨s.clock.tod, x.tab.timing.arrivalQual, x.tab.timing.beaconGap⟩ } }).accepted x
                  [1]))) ∧
      (∀ v q, (s.books.docks.get d).state = .qualifying → (s.books.docks.get d).visit = some v → v.courier = n →
        (s.books.docks.get d).qualify = some q →
        exec (.arriveBeacon p b) s = .next ((s.withBooks { s.books with
          docks := s.books.docks.set d { s.books.docks.get d with
            visit := some { v with lastKind := x.kind }
            qualify := some { q with gap := x.tab.timing.beaconGap } } }).accepted x [1])) ∧
      ((s.books.docks.get d).state = .arrived ∨ (s.books.docks.get d).state = .custody ∨
          (s.books.docks.get d).state = .exchange ∨ (s.books.docks.get d).state = .released ∨
          (s.books.docks.get d).state = .departing →
        exec (.arriveBeacon p b) s = .next ((s.withBooks { s.books with
          docks := s.books.docks.set d { s.books.docks.get d with
            visit := (s.books.docks.get d).visit.map fun v => { v with lastKind := x.kind } } }).accepted x
              (oneByte (s.books.docks.get d).state.code)))) ∧
   ∀ (s : State) (d : Fin 2) (v : Visit) (q : Qualification), (s.books.docks.get d).state = .qualifying →
     (s.books.docks.get d).visit = some v → (s.books.docks.get d).qualify = some q →
     (q.qual = 0 → s.activeTables.courierValid v.courier = false →
       exec (.arrivalQualificationExpiry d) s = .next (s.raiseDockFault s.activeTables.timing d v.station v.segment
         v.lastKind .courierUnknown)) ∧
     (q.qual = 0 → s.activeTables.courierValid v.courier = true →
       exec (.arrivalQualificationExpiry d) s = .next ((s.withBooks { s.books with
         docks := s.books.docks.set d { s.books.docks.get d with
           state := if s.activeTables.dockModes.get d = .auto then .custody else .arrived
           qualify := none, holders := [], deliveries := []
           limit := some (s.activeTables.timing.handoverLimit * 60) } }).setSource .arrival)) ∧
     (q.gap = 0 → exec (.arrivalGapExpiry d) s = .next (s.withBooks { s.books with
       docks := s.books.docks.set d ⟨.idle, none, none, [], none, [], [], (s.books.docks.get d).lockouts, none,
         none⟩ })) ∧
     (q.qual ≠ 0 → exec (.arrivalQualificationExpiry d) s = .next s) ∧
     (q.gap ≠ 0 → exec (.arrivalGapExpiry d) s = .next s)) ∧
  ∀ (T : Tables) (id : Nat), T.courierValid id = true ↔
    id ≠ 0 ∧ ∃ i, (T.couriers.get i).id = id ∧ (T.couriers.get i).valid = true

/-- R135: OPEN_HANDOVER takes a dock in ARRIVED to CUSTODY; in any other state BAD_STATE. R132: at a dock in LOCKOUT or LOCKED
every dock frame is refused with DOCK_LOCKED and changes nothing. R144: LOCKOUT ends at its timer's expiry with the count
kept; DOCK_UNLOCK ends LOCKOUT and LOCKED with the count 0; in any other state BAD_STATE. That a lockout timer has run down
at 0 is assumption 6. -/
def Obligations.OpenHandoverAndUnlock : Prop :=
  (∀ (s : State) (c : Command) (d : Fin 2), s.AtHead c 0x11 → readIndex 2 c.params = some d → s.ReplyRoom →
     (∀ v, (s.books.docks.get d).state = .arrived → (s.books.docks.get d).visit = some v →
       exec .openHandover s = .next ((s.withBooks { s.books with
         docks := s.books.docks.set d { s.books.docks.get d with
           state := .custody, holders := [], deliveries := [] } }).completed c none (twoBytes v.courier))) ∧
     ((s.books.docks.get d).state ≠ .arrived → exec .openHandover s = .next (s.completed c (some .badState) []))) ∧
  (∀ (s : State) (i : Instr) (k : OwnedKind) (p : Fin 4) (b : FrameBody) (x : Ctx) (d : Fin 2),
     stationRow i = some (k, p, b) → s.Heard k p b x → x.entry.role = .dock d → k.payloadReads b.payload = true →
     k ∈ [.arriveBeacon, .departBeacon, .custodyPresent, .itemOut, .itemIn, .handoverEnd] →
     (s.books.docks.get d).state = .lockout ∨ (s.books.docks.get d).state = .locked →
     exec i s = .next (s.turnedAway x .dockLocked 0 [])) ∧
  ∀ (s : State) (d : Fin 2),
    ((s.books.docks.get d).state = .lockout → (s.books.docks.get d).lockout = some 0 →
      exec (.lockoutTimerExpiry d) s = .next (s.withBooks { s.books with
        docks := s.books.docks.set d ⟨.idle, none, none, [], none, [], [], (s.books.docks.get d).lockouts, none,
          none⟩ })) ∧
    (∀ c, s.AtHead c 0x12 → readIndex 2 c.params = some d → s.ReplyRoom →
      ((s.books.docks.get d).state = .lockout ∨ (s.books.docks.get d).state = .locked →
        exec .dockUnlock s = .next ((s.withBooks { s.books with
          docks := s.books.docks.set d ⟨.idle, none, none, [], none, [], [], 0, none, none⟩ }).completed c none
            [])) ∧
      ((s.books.docks.get d).state ≠ .lockout → (s.books.docks.get d).state ≠ .locked →
        exec .dockUnlock s = .next (s.completed c (some .badState) [])))

/-- R136, R137: the first key holder starts the pairing timer, a second completes the pairing and brings the READY
consignments of the dock to it; the pairing timer's expiry is a dock fault; outside CUSTODY the frame is refused with
BAD_STATE. The layout of the answers is assumption 21, the number of consignments in 2 bytes assumption 38, and that a pairing
timer has run down at 0 assumption 6. -/
def Obligations.CustodyPairing : Prop :=
  (∀ (s : State) (p : Fin 4) (b : FrameBody) (x : Ctx) (d : Fin 2) (n : Nat), s.Heard .custodyPresent p b x →
     x.entry.role = .dock d → readId b.payload = some n → (s.books.docks.get d).state ≠ .custody →
     (s.books.docks.get d).state ≠ .lockout → (s.books.docks.get d).state ≠ .locked →
     exec (.custodyPresent p b) s = .next (s.turnedAway x .badState 0 [])) ∧
  (∀ (s : State) (d : Fin 2) (v : Visit), (s.books.docks.get d).state = .custody →
     (s.books.docks.get d).visit = some v →
     (∀ (p : Fin 4) (b : FrameBody) (x : Ctx) (n : Nat), s.Heard .custodyPresent p b x → x.entry.role = .dock d →
       readId b.payload = some n →
       (x.tab.staffPasses n x.entry.domain (·.keyHolder) = false →
         exec (.custodyPresent p b) s =
           .next ((s.turnedAway x .staffNotPermitted 0 []).report x.src (.s x.port) x.kind .staffNotPermitted)) ∧
       (x.tab.staffPasses n x.entry.domain (·.keyHolder) = true →
         ((s.books.docks.get d).holders = [] →
           exec (.custodyPresent p b) s = .next ((s.withBooks { s.books with
             docks := s.books.docks.set d { s.books.docks.get d with
               holders := [n], pairing := some x.tab.timing.pairing
               visit := some { v with lastKind := x.kind } } }).accepted x [3])) ∧
         ∀ m, (s.books.docks.get d).holders = [m] →
           (m = n → exec (.custodyPresent p b) s = .next ((s.withBooks { s.books with
             docks := s.books.docks.set d { s.books.docks.get d with
               visit := some { v with lastKind := x.kind } } }).accepted x [3])) ∧
           (m ≠ n → ∃ bk ks, exec (.custodyPresent p b) s = .next ((s.withBooks bk).accepted x
               ([4] ++ twoBytes ks.length ++
                 twoBytes ((ks.map fun k => (s.books.consigns.get k).items.length).sum))) ∧
             ks = (List.finRange 8).filter (fun k =>
               (s.books.consigns.get k).state == .ready && (s.books.consigns.get k).dock == some d) ∧
             bk = { s.books with
               consigns := bk.consigns
               docks := s.books.docks.set d { s.books.docks.get d with
                 state := .exchange, holders := [m, n], pairing := none, atDock := ks
                 visit := some { v with lastKind := x.kind } } } ∧
             ∀ k, bk.consigns.get k = (if k ∈ ks then { s.books.consigns.get k with
                 state := .atDock
                 items := (s.books.consigns.get k).items.map fun l => { l with scanned := false } }
               else s.books.consigns.get k)))) ∧
     (∀ m, (s.books.docks.get d).holders = [m] → (s.books.docks.get d).pairing = some 0 →
       exec (.pairingTimerExpiry d) s = .next (s.raiseDockFault s.activeTables.timing d v.station v.segment
         v.lastKind .pairingTimeout)))

/-- R138: ITEM_OUT sets the scanned flag of the item that carries the number, refuses a second scan, and raises a dock
fault for a number that no item at the dock carries. R139: ITEM_IN creates a DELIVERY deposit while fewer than 16 were
taken, and is refused with CURRENCY_DISABLED or the reason of its creation request. Outside EXCHANGE both are refused with
BAD_STATE. The layout of the answers is assumption 21. -/
def Obligations.ItemsGoOutAndIn : Prop :=
  (∀ (s : State) (p : Fin 4) (b : FrameBody) (x : Ctx) (d : Fin 2), x.entry.role = .dock d →
     (s.books.docks.get d).state ≠ .exchange → (s.books.docks.get d).state ≠ .lockout →
     (s.books.docks.get d).state ≠ .locked →
     (∀ n, s.Heard .itemOut p b x → readContainerNumber b.payload = some n →
       exec (.itemOut p b) s = .next (s.turnedAway x .badState 0 [])) ∧
     (∀ q, s.Heard .itemIn p b x → readContainer b.payload = some q →
       exec (.itemIn p b) s = .next (s.turnedAway x .badState 0 []))) ∧
  (∀ (bk : Books) (ks : List (Fin 8)) (n : Nat) (k : Fin 8) (l : ConsignLine), k ∈ ks →
     l ∈ (bk.consigns.get k).items → bk.itemNumber l.item = n →
     (∀ j m, j ∈ ks → m ∈ (bk.consigns.get j).items → bk.itemNumber m.item = n → j = k ∧ m = l) →
     bk.findItem ks n = some (k, l)) ∧
  (∀ (bk : Books) (ks : List (Fin 8)) (n : Nat) (k : Fin 8) (l : ConsignLine), bk.findItem ks n = some (k, l) →
     k ∈ ks ∧ l ∈ (bk.consigns.get k).items ∧ bk.itemNumber l.item = n) ∧
  (∀ (bk : Books) (n : Nat) (src : BagSource) (a : Amounts) (i : Fin 512) (d : Deposit),
     bk.itemNumber (.bag n src a) = n ∧
     (bk.deposits.get i = some d → bk.itemNumber (.deposit i) = d.number)) ∧
  (∀ (s : State) (p : Fin 4) (b : FrameBody) (x : Ctx) (d : Fin 2) (q : Container), s.Heard .itemIn p b x →
     x.entry.role = .dock d → readContainer b.payload = some q → (s.books.docks.get d).state = .exchange →
     (s.books.docks.get d).deliveries.length < 16 → x.tab.currenciesEnabled q.list = false →
     exec (.itemIn p b) s = .next (s.turnedAway x .currencyDisabled 0 [])) ∧
  ((∀ (s : State) (p : Fin 4) (b : FrameBody) (x : Ctx) (d : Fin 2) (v : Visit) (n : Nat),
      s.Heard .itemOut p b x → x.entry.role = .dock d → readContainerNumber b.payload = some n →
      (s.books.docks.get d).state = .exchange → (s.books.docks.get d).visit = some v →
      ((∀ k ∈ (s.books.docks.get d).atDock, ∀ l ∈ (s.books.consigns.get k).items, s.books.itemNumber l.item ≠ n) →
        exec (.itemOut p b) s = .next ((s.turnedAway x .unknownNumber 0 []).raiseDockFault x.tab.timing d x.src x.port
          x.kind .unknownNumber)) ∧
      ∀ k l, s.books.findItem (s.books.docks.get d).atDock n = some (k, l) →
        (l.scanned = true → exec (.itemOut p b) s = .next (s.turnedAway x .duplicateNumber 0 [])) ∧
        (l.scanned = false → ∃ bk, bk = { s.books with
            consigns := s.books.consigns.set k { s.books.consigns.get k with
              items := (s.books.consigns.get k).items.map fun m => if m = l then { m with scanned := true } else m }
            docks := s.books.docks.set d { s.books.docks.get d with visit := some { v with lastKind := x.kind } } } ∧
          exec (.itemOut p b) s = .next ((s.withBooks bk).accepted x ([4] ++ oneByte k.val ++
            twoBytes (((s.books.docks.get d).atDock.map fun j =>
              ((bk.consigns.get j).items.filter fun m => !m.scanned).length).sum))))) ∧
   ∀ (s : State) (p : Fin 4) (b : FrameBody) (x : Ctx) (d : Fin 2) (v : Visit) (q : Container),
     s.Heard .itemIn p b x → x.entry.role = .dock d → readContainer b.payload = some q →
     (s.books.docks.get d).state = .exchange → (s.books.docks.get d).visit = some v →
     (16 ≤ (s.books.docks.get d).deliveries.length →
       exec (.itemIn p b) s = .next (s.turnedAway x .badState 0 [])) ∧
     ((s.books.docks.get d).deliveries.length < 16 → x.tab.currenciesEnabled q.list = true →
       (∀ r, s.books.create x.tab x.clock.tod ⟨.delivery, q.number, .dock d, q.list⟩
           (deliveryMove (storedList q.list)) = .error r →
         exec (.itemIn p b) s = .next (s.turnedAway x r 0 [])) ∧
       ∀ bk i, s.books.create x.tab x.clock.tod ⟨.delivery, q.number, .dock d, q.list⟩
           (deliveryMove (storedList q.list)) = .ok (bk, i) →
         exec (.itemIn p b) s = .next ((s.withBooks { bk with
           docks := s.books.docks.set d { s.books.docks.get d with
             deliveries := (s.books.docks.get d).deliveries ++ [i]
             visit := some { v with lastKind := x.kind } } }).accepted x ([4] ++ twoBytes i.val))))

/-- R140: HANDOVER_END with an item unscanned is refused with INCOMPLETE; with every item scanned it departs, or is refused
with its departure's reason; outside EXCHANGE it is refused with BAD_STATE. That the released source is set before the answer
and the forward is assumption 13, the layout of the answers assumption 21, and their numbers of consignments and of deliveries
in 2 bytes assumption 38. What a departure moves stands in MovementsChangeTheirPositions. -/
def Obligations.HandoverEndDeparts : Prop :=
  ((∀ (s : State) (p : Fin 4) (b : FrameBody) (x : Ctx) (d : Fin 2), s.Heard .handoverEnd p b x →
      x.entry.role = .dock d → b.payload = [] → (s.books.docks.get d).state ≠ .exchange →
      (s.books.docks.get d).state ≠ .lockout → (s.books.docks.get d).state ≠ .locked →
      exec (.handoverEnd p b) s = .next (s.turnedAway x .badState 0 [])) ∧
   (∀ (s : State) (p : Fin 4) (b : FrameBody) (x : Ctx) (d : Fin 2) (v : Visit) (n : Nat) (is : List (Fin 512)),
      s.Heard .handoverEnd p b x → x.entry.role = .dock d → b.payload = [] →
      (s.books.docks.get d).state = .exchange → (s.books.docks.get d).visit = some v →
      n = ((s.books.docks.get d).atDock.map fun k =>
        ((s.books.consigns.get k).items.filter fun l => !l.scanned).length).sum →
      is = ((s.books.docks.get d).atDock.map fun k => (s.books.consigns.get k).depositItems).flatten →
      (n ≠ 0 → exec (.handoverEnd p b) s = .next (s.turnedAway x .incomplete 0 (twoBytes n))) ∧
      (n = 0 →
        (∀ r, s.books.pos.present (departureMove s.books.pos (s.books.docks.get d).atDock
            (is.map s.books.declaredOf)) = .error r →
          exec (.handoverEnd p b) s = .next (s.turnedAway x r 0 [])) ∧
        ∀ q, s.books.pos.present (departureMove s.books.pos (s.books.docks.get d).atDock
            (is.map s.books.declaredOf)) = .ok q →
          exec (.handoverEnd p b) s = .next (((s.withBooks { s.books with
              pos := q
              deposits := s.books.deposits.mapIx fun i r => if is.contains i then r.map fun r => { r with
                state := .closed, outcome := some .departed, holder := none, closed := some x.clock.tod } else r
              closeOrder := s.books.closeOrder ++ (List.finRange 512).filter fun i => is.contains i
              consigns := s.books.consigns.mapIx fun k c =>
                if (s.books.docks.get d).atDock.contains k then ⟨.free, none, []⟩ else c
              docks := s.books.docks.set d { s.books.docks.get d with
                state := .released, atDock := [], lockouts := 0
                visit := some { v with lastKind := x.kind } } }).setSource .released).accepted x
            ([5] ++ twoBytes (s.books.docks.get d).atDock.length ++ twoBytes is.length ++
              twoBytes (s.books.docks.get d).deliveries.length))))) ∧
  ∀ (bk : Books) (i : Fin 512) (d : Deposit), bk.deposits.get i = some d → bk.declaredOf i = d.declared

/-- R141: DEPART_BEACON from the handover's courier in RELEASED and in DEPARTING; from another courier, or before RELEASED,
it is accepted and ignored. R141: the end of the departure qualification or of its gap. R142: the expiry of the handover
timer, by the state of the dock. That a timer has run down at 0, so that with both of a qualification's at 0, where they
fall together, either expiry may be taken, is assumption 6. -/
def Obligations.DepartureAndHandoverTimer : Prop :=
  (∀ (s : State) (d : Fin 2) (p : Fin 4) (b : FrameBody) (x : Ctx) (n : Nat), s.Heard .departBeacon p b x →
     x.entry.role = .dock d → readId b.payload = some n →
     ((s.books.docks.get d).state ≠ .lockout → (s.books.docks.get d).state ≠ .locked →
       ((∀ v, (s.books.docks.get d).visit = some v → v.courier ≠ n) ∨
         ((s.books.docks.get d).state ≠ .released ∧ (s.books.docks.get d).state ≠ .departing)) →
       exec (.departBeacon p b) s = .next ((s.withBooks { s.books with
         docks := s.books.docks.set d { s.books.docks.get d with
           visit := (s.books.docks.get d).visit.map fun v => { v with lastKind := x.kind } } }).accepted x
             (oneByte (s.books.docks.get d).state.code))) ∧
     ∀ v, (s.books.docks.get d).visit = some v → v.courier = n →
       ((s.books.docks.get d).state = .released →
         exec (.departBeacon p b) s = .next ((s.withBooks { s.books with
           docks := s.books.docks.set d { s.books.docks.get d with
             state := .departing, visit := some { v with lastKind := x.kind }
             qualify := some ⟨s.clock.tod, x.tab.timing.departureQual, x.tab.timing.beaconGap⟩ } }).accepted x
               [6])) ∧
       ∀ q, (s.books.docks.get d).state = .departing → (s.books.docks.get d).qualify = some q →
         exec (.departBeacon p b) s = .next ((s.withBooks { s.books with
           docks := s.books.docks.set d { s.books.docks.get d with
             visit := some { v with lastKind := x.kind }
             qualify := some { q with gap := x.tab.timing.beaconGap } } }).accepted x [6])) ∧
  (∀ (s : State) (d : Fin 2) (q : Qualification), (s.books.docks.get d).state = .departing →
     (s.books.docks.get d).qualify = some q →
     (q.qual = 0 → exec (.departureQualificationExpiry d) s = .next (s.withBooks { s.books with
       docks := s.books.docks.set d ⟨.idle, none, none, [], none, [], [], (s.books.docks.get d).lockouts, none,
         none⟩ })) ∧
     (q.gap = 0 → exec (.departureGapExpiry d) s = .next (s.withBooks { s.books with
       docks := s.books.docks.set d { s.books.docks.get d with state := .released, qualify := none } }))) ∧
  ∀ (s : State) (d : Fin 2) (v : Visit), (s.books.docks.get d).visit = some v →
    (s.books.docks.get d).limit = some 0 →
    ((s.books.docks.get d).state = .arrived ∨ (s.books.docks.get d).state = .custody ∨
        (s.books.docks.get d).state = .exchange →
      exec (.handoverTimerExpiry d) s = .next (s.raiseDockFault s.activeTables.timing d v.station v.segment
        v.lastKind .handoverTimeout)) ∧
    ((s.books.docks.get d).state = .released ∨ (s.books.docks.get d).state = .departing →
      exec (.handoverTimerExpiry d) s = .next ((s.withBooks { s.books with
        docks := s.books.docks.set d ⟨.idle, none, none, [], none, [], [], (s.books.docks.get d).lockouts, none,
          none⟩ }).setSource .departureUnconfirmed))

/-- R143: what a dock fault does: to the records, consignments back to READY unscanned, the lockout count raised and
held at 7, the dock LOCKED at the limit and in LOCKOUT below it; then the fault source of the DOCK class is set, and the fault
reported with the station, segment, kind and reason given it. That the source is set before the report is assumption 13. -/
def Obligations.DockFaultLocksTheDock : Prop :=
  (∀ (timing : Timing) (d : Fin 2) (bk : Books),
     ((dockFaultRecords timing d bk).docks.get d =
       (if timing.lockoutLimit ≤ min ((bk.docks.get d).lockouts + 1) 7 then
         ⟨.locked, none, none, [], none, [], [], min ((bk.docks.get d).lockouts + 1) 7, none, none⟩
       else ⟨.lockout, none, none, [], none, [], [], min ((bk.docks.get d).lockouts + 1) 7, none,
         some timing.lockout⟩)) ∧
     (∀ e, e ≠ d → (dockFaultRecords timing d bk).docks.get e = bk.docks.get e) ∧
     (∀ k, (dockFaultRecords timing d bk).consigns.get k =
       (if k ∈ (bk.docks.get d).atDock then { bk.consigns.get k with
           state := .ready, items := (bk.consigns.get k).items.map fun l => { l with scanned := false } }
         else bk.consigns.get k)) ∧
     dockFaultRecords timing d bk = { bk with
       docks := (dockFaultRecords timing d bk).docks, consigns := (dockFaultRecords timing d bk).consigns }) ∧
  ∀ (s : State) (timing : Timing) (d : Fin 2) (station : Byte) (g : Fin 4) (k : Byte) (r : Reason),
    s.raiseDockFault timing d station g k r =
      ((s.withBooks (dockFaultRecords timing d s.books)).setSource .dockFault).report station (.s g) k r

/-! ## Ports and the uplink (chapter 8) -/

/-- R150, R169: a segment port going DOWN loses its frame in hand, its queue and its claim on common slots, and its
stations become ABSENT; the uplink port keeps its queue. R153, R156: frames leave in queue order, one at a time, while
the port is UP. That LINK_UP and LINK_DOWN stand for the end of their seconds in or out of lock is assumption 7, that a frame
sent from a DOWN port changes nothing assumption 1, and the frame last sent, held as the port's output, assumption 26. -/
def Obligations.LinkStateAndFramesSent : Prop :=
  (∀ (s : State) (p : Fin 4),
     exec (.linkUp (.s p)) s = .next { s with links := { s.links with
       segs := s.links.segs.set p { s.links.segs.get p with up := true } } } ∧
     exec (.linkUp .u) s = .next { s with links := { s.links with uport := { s.links.uport with up := true } } } ∧
     (s.links.uport.up = true → exec (.linkDown .u) s = .next { s with
       links := { s.links with uport := { s.links.uport with up := false, hand := none } } }) ∧
     ((s.links.segs.get p).up = true → ∃ t, exec (.linkDown (.s p)) s = .next t ∧
       t = { s with
         admission := t.admission
         links := { s.links with
           segs := s.links.segs.set p { s.links.segs.get p with
             up := false, hand := none, queue := [], waiting := false, granted := false } } } ∧
       ∀ a, t.admission.get a = (match s.admission.get a with
         | .absent => .absent
         | .welcomed q k => if q = p then .absent else .welcomed q k
         | .admitted q => if q = p then .absent else .admitted q
         | .failed q => if q = p then .absent else .failed q))) ∧
  ∀ (s : State),
    (∀ p f rest, (s.links.segs.get p).queue = f :: rest → (s.links.segs.get p).up = true →
      exec (.segmentFrameSent p) s = .next { s with links := { s.links with
        segs := s.links.segs.set p { s.links.segs.get p with queue := rest, line := some f } } }) ∧
    (∀ f rest, s.links.uplink = f :: rest → s.links.uport.up = true →
      exec .uplinkFrameSent s = .next { s with links := { s.links with
        uplink := rest, uport := { s.links.uport with line := some f.frame } } }) ∧
    (∀ p, (s.links.segs.get p).up = false → exec (.segmentFrameSent p) s = .next s) ∧
    (s.links.uport.up = false → exec .uplinkFrameSent s = .next s)

/-- R152: a header at a segment port is taken where the three conditions hold; otherwise the port sends BUSY, and waits if
a common slot lacks (R155). R157, R158: a header at U is taken or answered BUSY by its destination. The model's choices in
it: a port waits beside another lacking condition too, and a DOWN port is judged by the same three (assumption 9); no slot
is held for a management frame in hand (assumption 10); a change of bank that is due (R183) comes first in the same step
(assumption 12); a slot is free to take directly only with nothing waiting (assumption 8); busy is the BUSY answer as the
state shows it (assumption 26). R153: the slots reserved in a transmit queue are those of the frame in hand at its port
and of a downstream frame in hand at U. -/
def Obligations.HeadersAreTakenOrAnsweredBusy : Prop :=
  ((∀ (s0 s : State) (p : Fin 4) (h : FrameHeader), s = s0.switchPort (.s p) →
      ((s.links.segs.get p).hand = none → (s.links.segs.get p).queue.length + s.segReserved p < 16 →
        ((s.links.segs.get p).granted = true ∨
          (s.commonInUse < 56 ∧ (∀ q, (s.links.segs.get q).waiting = false) ∧ s.links.waits = [])) →
        exec (.segmentFrameHeader p h) s0 = .next { s with links := { s.links with
          segs := s.links.segs.set p { s.links.segs.get p with
            hand := some ⟨h, (s.links.segs.get p).bank⟩, granted := false, busy := false } } }) ∧
      ((s.links.segs.get p).granted = false →
        (56 ≤ s.commonInUse ∨ (∃ q, (s.links.segs.get q).waiting = true) ∨ s.links.waits ≠ []) →
        exec (.segmentFrameHeader p h) s0 = .next { s with links := { s.links with
          segs := s.links.segs.set p { s.links.segs.get p with busy := true, waiting := true } } }) ∧
      ((s.links.segs.get p).hand ≠ none ∨ 16 ≤ (s.links.segs.get p).queue.length + s.segReserved p →
        ((s.links.segs.get p).granted = true ∨
          (s.commonInUse < 56 ∧ (∀ q, (s.links.segs.get q).waiting = false) ∧ s.links.waits = [])) →
        exec (.segmentFrameHeader p h) s0 = .next { s with links := { s.links with
          segs := s.links.segs.set p { s.links.segs.get p with busy := true } } })) ∧
   ∀ (s0 s : State) (h : FrameHeader), s = s0.switchPort .u → s.links.uport.hand = none →
     (h.dst = 0 →
       (s.slotFree = true → exec (.uplinkFrameHeader h) s0 = .next { s with links := { s.links with
         uport := { s.links.uport with hand := some ⟨h, none⟩, busy := false } } }) ∧
       (s.slotFree = false → exec (.uplinkFrameHeader h) s0 = .next { s with links := { s.links with
         uport := { s.links.uport with busy := true } } })) ∧
     (h.dst = 255 → exec (.uplinkFrameHeader h) s0 = .next { s with links := { s.links with
       uport := { s.links.uport with hand := some ⟨h, none⟩, busy := false } } }) ∧
     (h.dst ≠ 0 → h.dst ≠ 255 → ∀ e, e = (s.store.bank s.links.uport.bank).station h.dst →
       (e.role = .none → exec (.uplinkFrameHeader h) s0 = .next { s with links := { s.links with
         uport := { s.links.uport with hand := some ⟨h, none⟩, busy := false } } }) ∧
       (e.role ≠ .none →
         ((s.links.segs.get e.segment).queue.length + s.segReserved e.segment < 16 →
           exec (.uplinkFrameHeader h) s0 = .next { s with links := { s.links with
             uport := { s.links.uport with hand := some ⟨h, some e.segment⟩, busy := false } } }) ∧
         (16 ≤ (s.links.segs.get e.segment).queue.length + s.segReserved e.segment →
           exec (.uplinkFrameHeader h) s0 = .next { s with links := { s.links with
             uport := { s.links.uport with busy := true } } })))) ∧
  (∀ (s : State) (p : PortId), exec (.portBankSwitch p) s = .next (s.switchPort p)) ∧
  ∀ (s : State) (p : Fin 4), s.segReserved p = (if (s.links.segs.get p).hand = none then 0 else 1) +
    (match s.links.uport.hand with
      | some h => if h.room = some p then 1 else 0
      | none => 0)

/-- R151: a frame that fails the receive check is dropped and counted, with no answer. That every row that stands for the
arrival of its last byte, at a segment port or at U, does then what RECEIVE_CHECK_FAIL does is assumption 3. -/
def Obligations.DamagedFrameIsDroppedAndCounted : Prop :=
  ∀ (s : State) (b : FrameBody),
    (∀ (p : Fin 4) (h : Hand), (s.links.segs.get p).hand = some h → receiveOk h.hdr b = false →
      exec (.receiveCheckFail (.s p) b) s = .next { s with links := { s.links with
        segs := s.links.segs.set p { s.links.segs.get p with
          hand := none, errors := min ((s.links.segs.get p).errors + 1) 65535 } } } ∧
      ∀ i c, segmentRow i = some (c, p, b) → kindClass h.hdr.kind = c →
        exec i s = exec (.receiveCheckFail (.s p) b) s) ∧
    (∀ h, s.links.uport.hand = some h → receiveOk h.hdr b = false →
      exec (.receiveCheckFail .u b) s = .next { s with links := { s.links with
        uport := { s.links.uport with hand := none, errors := min (s.links.uport.errors + 1) 65535 } } } ∧
      ∀ i, uplinkRow h.hdr.dst b i → exec i s = exec (.receiveCheckFail .u b) s)

/-- R163, R164: the Classifier's six checks in their order, on a frame of any kind, a PASS or an OUTBOUND one included; a
refused frame is answered and reported, and changes no record, table or position. R162: which roles may send the kinds of
which group; section 8.6: the codes of the owned and of the OUTBOUND kinds. -/
def Obligations.RefusedFrameChangesNoRecord : Prop :=
  (∀ (s : State) (i : Instr) (c : KindClass) (p : Fin 4) (b : FrameBody) (x : Ctx) (r : Reason),
     segmentRow i = some (c, p, b) → s.Received c p b x →
     (((x.src = 0 ∨ x.src = 255) ∧ r = .malformed) ∨
       (x.src ≠ 0 ∧ x.src ≠ 255 ∧
         ((x.entry.role = .none ∧ r = .unknownStation) ∨
         (x.entry.role ≠ .none ∧
           ((x.entry.segment ≠ p ∧ r = .wrongSegment) ∨
           (x.entry.segment = p ∧
             ((c ≠ .owned .announce ∧ c ≠ .owned .ready ∧ s.admitted x.src = false ∧ r = .notAdmitted) ∨
             ((c = .owned .announce ∨ c = .owned .ready ∨ s.admitted x.src = true) ∧
               (((c = .outbound ∨ (c = .pass ∧ x.entry.pass = false) ∨
                   ∃ k, c = .owned k ∧ x.entry.role.maySend k = false) ∧ r = .kindNotPermitted) ∨
               ∃ k, c = .owned k ∧ x.entry.role.maySend k = true ∧ k.payloadReads b.payload = false ∧
                 r = .malformed))))))))) →
     ∃ t, exec i s = .next t ∧ t = (s.turnedAway x r 0 []).report x.src (.s p) x.kind r ∧
       t.books = s.books ∧ t.store = s.store ∧ t.admission = s.admission ∧ t.clock = s.clock ∧ t.mgmt = s.mgmt) ∧
  (∀ (s : State) (a : Byte), s.admitted a = true ↔ ∃ p, s.admission.get a.toFin = .admitted p) ∧
  (∀ (r : Role) (k : OwnedKind), r.maySend k = true ↔
     ((k.code = 0x01 ∨ k.code = 0x02) ∧ r ≠ .none) ∨
     (0x10 ≤ k.code.toNat ∧ k.code.toNat ≤ 0x14 ∧ ∃ t cls, r = .till t cls) ∨
     (0x20 ≤ k.code.toNat ∧ k.code.toNat ≤ 0x23 ∧ ∃ i, r = .safe i) ∨
     ((k.code = 0x28 ∨ k.code = 0x29) ∧ r = .receiving) ∨
     (0x30 ≤ k.code.toNat ∧ k.code.toNat ≤ 0x34 ∧ ∃ l, r = .counter l) ∨
     (k.code = 0x38 ∧ r = .supervisor) ∨
     (0x40 ≤ k.code.toNat ∧ k.code.toNat ≤ 0x45 ∧ ∃ d, r = .dock d)) ∧
  ∀ (b : Byte) (k : OwnedKind), (kindClass b = .owned k ↔ b = k.code) ∧
    (kindClass b = .outbound ↔ 0xF0 ≤ b.toNat ∧ b.toNat ≤ 0xF4)

/-- R159, R160, R165: a PASS frame is forwarded as PASSED with the movement number as it stands, and not answered;
R162, R163: an OUTBOUND kind is refused for every station. -/
def Obligations.PassAndOutboundFrames : Prop :=
  ∀ (s : State) (p : Fin 4) (b : FrameBody) (x : Ctx), x.src ≠ 0 → x.src ≠ 255 → x.entry.role ≠ .none →
    x.entry.segment = p → s.admitted x.src = true →
    (s.Received .pass p b x → x.entry.pass = true →
      exec (.passFrame p b) s = .next { s with links := { s.links with
        segs := s.links.segs.set p { s.links.segs.get p with hand := none }
        uplink := s.links.uplink ++ [⟨.forward, ⟨0, x.src, x.kind, b.payload ++ beBytes 4 s.links.movement.toNat ++
          [2, BitVec.ofNat 8 x.bank.val, 0, 0]⟩⟩] } }) ∧
    (s.Received .outbound p b x →
      exec (.outboundKindStationFrame p b) s =
        .next ((s.turnedAway x .kindNotPermitted 0 []).report x.src (.s p) x.kind .kindNotPermitted))

/-- R158: a downstream frame is placed unchanged for an ADMITTED station, and otherwise dropped with UNREACHABLE;
R157: a frame to 255 is dropped with MALFORMED. -/
def Obligations.DownstreamFrames : Prop :=
  ∀ (s : State) (b : FrameBody) (h : UpHand), s.links.uport.hand = some h → receiveOk h.hdr b = true →
    (h.hdr.dst ≠ 0 → h.hdr.dst ≠ 255 →
      (∀ i, h.room = some i → s.admitted h.hdr.dst = true → (s.links.segs.get i).up = true →
        exec (.downstreamFrame b) s = .next { s with links := { s.links with
          uport := { s.links.uport with hand := none }
          segs := s.links.segs.set i { s.links.segs.get i with
            queue := (s.links.segs.get i).queue ++ [⟨h.hdr.dst, h.hdr.src, h.hdr.kind, b.payload⟩] } } }) ∧
      (h.room = none ∨ s.admitted h.hdr.dst = false ∨
          (∃ i, h.room = some i ∧ (s.links.segs.get i).up = false) →
        exec (.downstreamFrame b) s = .next (({ s with links := { s.links with
          uport := { s.links.uport with hand := none } } } : State).report h.hdr.dst .u h.hdr.kind .unreachable))) ∧
    (h.hdr.dst = 255 →
      exec (.destination255Frame b) s = .next (({ s with links := { s.links with
        uport := { s.links.uport with hand := none } } } : State).report 255 .u h.hdr.kind .malformed))

/-- R154, R155: a freed slot goes to the first waiting reply or notice, and only with none waiting to the next waiting
port from the pointer. R187: a reply placed completes its command, and a FENCE's sets the fence done source where its
notify flag asks for it. That the hand-on of a freed slot is a step of its own is assumption 8, that the fence done source
is set as the FENCE's reply is placed assumption 14, and that such a step with no slot free, or with a reply or notice
waiting before the ports, changes nothing assumption 1. R154: the common slots in use, and whether some slot of either
kind is free. -/
def Obligations.FreedSlotsGoToWaitersInOrder : Prop :=
  (∀ (s : State),
     (∀ (r : Reply) (k : Completes) (rest : List WaitItem) (u : State) (c : Command),
       s.links.waits = .reply r k :: rest → s.slotFree = true → u = { s with links := { s.links with waits := rest } } →
       c = ⟨r.tag, r.code, []⟩ →
       exec .waitingReplyPlaced s = .next (match k with
         | .nothing => u.said c r.refusal r.result
         | .activate => u.said c r.refusal r.result
         | .head => u.completed c r.refusal r.result
         | .fence false => u.completed c r.refusal r.result
         | .fence true => (u.completed c r.refusal r.result).setSource .fenceDone)) ∧
     (∀ k rest, s.links.waits = .notice k :: rest → s.slotFree = true →
       exec .waitingReplyPlaced s = .next (({ s with links := { s.links with waits := rest } } : State).noticed k)) ∧
     (s.slotFree = false → exec .waitingReplyPlaced s = .next s) ∧
     (∀ (p : Fin 4) (k : Nat), s.links.waits = [] → s.commonInUse < 56 → k < 4 → p.val = (s.links.pointer.val + k) % 4 →
       (s.links.segs.get p).waiting = true →
       (∀ (q : Fin 4) (j : Nat), j < k → q.val = (s.links.pointer.val + j) % 4 →
         (s.links.segs.get q).waiting = false) →
       exec .commonSlotGrant s = .next { s with links := { s.links with
         segs := s.links.segs.set p { s.links.segs.get p with waiting := false, granted := true }
         pointer := p + 1 } }) ∧
     (s.links.waits ≠ [] → exec .commonSlotGrant s = .next s)) ∧
  ∀ (s : State) (forwards others reserved : Nat),
    forwards = (s.links.uplink.filter fun f => f.cls == .forward).length →
    forwards + others = s.links.uplink.length →
    reserved = ((List.finRange 4).map fun p =>
      (if (s.links.segs.get p).hand = none then 0 else 1) +
        if (s.links.segs.get p).granted = true then 1 else 0).sum →
    s.commonInUse = forwards + reserved + (others - 8) ∧
    (s.slotFree = true ↔ others < 8 ∨ s.commonInUse < 56)

/-! ## Admission, faults, notices (chapters 9 and 11) -/

/-- R167, R168: ANNOUNCE, READY and the admission timer. The timeout in 2 bytes and the order of the WELCOME's fields are
assumption 21; that an admission timer has run down at 0 is assumption 6, and that the row of one that has not changes
nothing assumption 1. -/
def Obligations.StationsJoin : Prop :=
  ∀ (s : State) (p : Fin 4) (b : FrameBody) (x : Ctx), b.payload = [] → x.entry.role ≠ .none →
    (s.Heard .announce p b x →
      exec (.announce p b) s = .next (({ s with
          admission := s.admission.set x.src.toFin (.welcomed p x.tab.timing.admission) } : State).accepted x
        (oneByte x.entry.role.code ++ oneByte x.entry.role.unit ++ twoBytes x.tab.timing.admission))) ∧
    (s.Heard .ready p b x →
      (∀ q k, s.admission.get x.src.toFin = .welcomed q k →
        exec (.ready p b) s = .next (({ s with
          admission := s.admission.set x.src.toFin (.admitted q) } : State).accepted x [])) ∧
      ((∀ q k, s.admission.get x.src.toFin ≠ .welcomed q k) →
        exec (.ready p b) s = .next (s.turnedAway x .badState 0 []))) ∧
    (∀ a q k, s.admission.get a.toFin = .welcomed q k →
      (k = 0 → exec (.admissionTimerExpiry a) s = .next (({ s with
        admission := s.admission.set a.toFin (.failed q) } : State).setSource .admissionFailed)) ∧
      (k ≠ 0 → exec (.admissionTimerExpiry a) s = .next s))

/-- R173: a report collapses into the record of its station, or takes the lowest clear record, or sets the overflow
flag; at most one set record names a station, and the FAULT flag of a segment stands while some set record has it.
R175: FAULT_CLEAR clears the named records and, if asked, the overflow flag, and keeps the first-pending index. -/
def Obligations.FaultReportsAndClearing : Prop :=
  (∀ (s : State) (a : Byte) (g : PortId) (k : Byte) (e : Reason), s.recorder.OneEach →
     (s.report a g k e).recorder.OneEach ∧
     (∀ i f, s.recorder.records.get i = some f → f.station = a →
       s.report a g k e = { s with recorder := { s.recorder with
         records := s.recorder.records.set i (some { f with collapse := min (f.collapse + 1) 255 }) } }) ∧
     ((∀ i f, s.recorder.records.get i = some f → f.station ≠ a) →
       (∀ i, s.recorder.records.get i = none → (∀ j, j < i → s.recorder.records.get j ≠ none) →
         s.report a g k e = ({ s with recorder := { s.recorder with
           records := s.recorder.records.set i (some ⟨a, g, k, e, s.clock.tod, 0⟩)
           first := if ∀ j, s.recorder.records.get j = none then some i else s.recorder.first } } : State).setSource
             .newFault) ∧
       ((∀ i, s.recorder.records.get i ≠ none) →
         s.report a g k e =
           (if s.recorder.overflow = true then s
           else ({ s with recorder := { s.recorder with overflow := true } } : State).setSource .overflow))) ∧
     ∀ i, s.faultFlag i = true ↔ ∃ j f, s.recorder.records.get j = some f ∧ f.segment = .s i) ∧
  ∀ (s : State) (c : Command) (q : FaultClear), s.AtHead c 0x14 → readFaultClear c.params = some q → s.ReplyRoom →
    ∃ r, (∀ i, r.records.get i = (if q.records.getLsbD i.val = true then none else s.recorder.records.get i)) ∧
      r.overflow = (s.recorder.overflow && !q.overflow) ∧ r.first = s.recorder.first ∧
      exec .faultClear s = .next (({ s with recorder := r } : State).completed c none
        (twoBytes ((List.finRange 8).filter fun i =>
            q.records.getLsbD i.val && (s.recorder.records.get i).isSome).length ++
          flagByte s.recorder.overflow ++
          twoBytes ((List.finRange 8).filter fun i => (r.records.get i).isSome).length))

/-- R191: a source set: nothing more where another of its class is set, a NOTICE offered where the class is enabled, the
pending flag where it is disabled; and a NOTICE is placed at once or waits with the pending flag set. That one waits
although a slot is free, because others wait before it, is assumption 8; that one may take a freed slot before a waiting
port is granted it is assumption 42. -/
def Obligations.SourceSetOffersANotice : Prop :=
  ∀ (s : State) (c : Source),
    ((∃ i, (s.notices.get c.cls).sources.get i = true) →
      s.setSource c = { s with notices := s.notices.set c.cls { s.notices.get c.cls with
        sources := (s.notices.get c.cls).sources.set c.place true } }) ∧
    ((∀ i, (s.notices.get c.cls).sources.get i = false) →
      ((s.notices.get c.cls).enabled = false →
        s.setSource c = { s with notices := s.notices.set c.cls { s.notices.get c.cls with
          sources := (s.notices.get c.cls).sources.set c.place true, pending := true } }) ∧
      ((s.notices.get c.cls).enabled = true →
        (s.ReplyRoom → s.setSource c = { s with
          notices := s.notices.set c.cls { s.notices.get c.cls with
            sources := (s.notices.get c.cls).sources.set c.place true, pending := false }
          links := { s.links with uplink := s.links.uplink ++ [⟨.notice, ⟨0, 0, 0xF3, s.summary ++
            [BitVec.ofNat 8 c.cls.val, BitVec.ofNat 8 (2 ^ c.place.val)]⟩⟩] } }) ∧
        (¬ s.ReplyRoom → s.setSource c = { s with
          notices := s.notices.set c.cls { s.notices.get c.cls with
            sources := (s.notices.get c.cls).sources.set c.place true, pending := true }
          links := { s.links with waits := s.links.waits ++ [.notice c.cls] } })))

/-- The status summary that begins every reply and notice, flag by flag: FAULT (R173), ATTN (R73, R88), ADMITFAIL (R166) and
LINK (R150) of each segment, then QSTALL (R188), ACTPEND (R183), DOCK0ACTIVE and DOCK1ACTIVE (R145) and TIME_UNSET (R190),
each at its bit. -/
def Obligations.StatusSummaryFlags : Prop :=
  ∀ (s : State) (fault attn admitFail link : Fin 4 → Bool) (dock : Fin 2 → Bool),
    (∀ i, fault i = true ↔ ∃ j f, s.recorder.records.get j = some f ∧ f.segment = .s i) →
    (∀ i, attn i = true ↔ ∃ a, (s.activeTables.station a).segment = i ∧
      ((∃ t cls, (s.activeTables.station a).role = .till t cls ∧ (s.books.tills.get t).state = .pickupOverdue) ∨
        ∃ f, (s.activeTables.station a).role = .safe f ∧ (s.books.safes.get f).state = .stopped)) →
    (∀ i, admitFail i = true ↔ ∃ a, s.admission.get a = .failed i) →
    (∀ i, link i = (s.links.segs.get i).up) →
    (∀ d, dock d = true ↔ (s.books.docks.get d).state ≠ .idle ∧ (s.books.docks.get d).state ≠ .lockout ∧
      (s.books.docks.get d).state ≠ .locked) →
    ∃ b0 b1 b2 : Byte, s.summary = [b0, b1, b2] ∧
      (∀ (b : Byte) (i j : Fin 4), (b = b0 ∧ i = 0 ∧ j = 1) ∨ (b = b1 ∧ i = 2 ∧ j = 3) →
        b.getLsbD 7 = fault i ∧ b.getLsbD 6 = attn i ∧ b.getLsbD 5 = admitFail i ∧ b.getLsbD 4 = link i ∧
        b.getLsbD 3 = fault j ∧ b.getLsbD 2 = attn j ∧ b.getLsbD 1 = admitFail j ∧ b.getLsbD 0 = link j) ∧
      b2.getLsbD 7 = s.mgmt.stalled ∧ b2.getLsbD 6 = s.store.activation.isSome ∧ b2.getLsbD 5 = dock 0 ∧
      b2.getLsbD 4 = dock 1 ∧ b2.getLsbD 3 = s.clock.unset ∧ b2.getLsbD 2 = false ∧ b2.getLsbD 1 = false ∧
      b2.getLsbD 0 = false

/-! ## Tables (chapter 10) -/

/-- R180, R182: TABLE_WRITE writes the STAGED bank alone, and neither it nor TABLE_READ names an entry beyond its
table. What each written entry is held as stands in WrittenEntriesAreClamped. The number of fields clamped in 2 bytes is
assumption 35. -/
def Obligations.TableCommands : Prop :=
  ∀ (s : State) (c : Command), s.ReplyRoom →
    (∀ q, s.AtHead c 0x16 → readTableWrite c.params = some q →
      (s.store.activation ≠ none → exec .tableWrite s = .next (s.completed c (some .activationPending) [])) ∧
      (s.store.activation = none →
        ((∃ i ∈ q.range.indices, q.range.table.entries ≤ i) ∨ (q.range.table = .rate ∧ 0 ∈ q.range.indices) →
          exec .tableWrite s = .next (s.completed c (some .tableRange) [])) ∧
        ((∀ i ∈ q.range.indices, i < q.range.table.entries) →
            ¬ (q.range.table = .rate ∧ 0 ∈ q.range.indices) →
          ∃ t n, exec .tableWrite s = .next t ∧
            t = ({ s with store := t.store } : State).completed c none (twoBytes q.range.count ++ twoBytes n) ∧
            t.store.active = s.store.active ∧ t.store.activation = none ∧
            t.store.bank s.store.active = s.store.bank s.store.active ∧
            (t.store.bank s.store.staged, n) =
              writeEntries q.range.table q.range.indices q.content (s.store.bank s.store.staged)))) ∧
    (∀ q, s.AtHead c 0x17 → readTableRead c.params = some q →
      ((∃ i ∈ q.range.indices, q.range.table.entries ≤ i) →
        exec .tableRead s = .next (s.completed c (some .tableRange) [])) ∧
      ((∀ i ∈ q.range.indices, i < q.range.table.entries) → ∀ bk : Fin 2,
        bk = (if q.staged then s.store.staged else s.store.active) →
        exec .tableRead s = .next (s.completed c none
          (oneByte bk.val ++
            (q.range.indices.map fun i => entryBytes q.range.table i (s.store.bank bk)).flatten))))

/-- R181: each entry written reads back with every field as its range holds it, the number of fields held at another value
than the one written is counted, and every other entry of every table reads as before; an entry is written by the bytes at
its place in the content. R3, R161: RATE entry 0 and the roles of STATION entries 0 and 255 are hard-wired. That the unused
flag bits of a STAFF entry are not held is assumption 20. -/
def Obligations.WrittenEntriesAreClamped : Prop :=
  (∀ (t : TableName) (is : List Nat) (content : List Byte) (T T' : Tables) (n : Nat),
     is.Nodup → (∀ i ∈ is, i < t.entries) → (t = .rate → 0 ∉ is) → content.length = is.length * t.entrySize →
     writeEntries t is content T = (T', n) →
     (∀ (k : Nat) (h : k < is.length) (slice : List Byte),
       slice = (content.drop (k * t.entrySize)).take t.entrySize →
       entryBytes t is[k] T' = heldBytes (t.fields is[k] slice) slice) ∧
     n = ((List.range is.length).map fun k =>
       clampedFields (t.fields (is.getD k 0) ((content.drop (k * t.entrySize)).take t.entrySize))
         ((content.drop (k * t.entrySize)).take t.entrySize)).sum ∧
     ∀ (u : TableName) (j : Nat), j < u.entries → u ≠ t ∨ j ∉ is → entryBytes u j T' = entryBytes u j T) ∧
  ∀ T : Tables, (T.station 0).role = .none ∧ (T.station 255).role = .none ∧ T.rate 0 = ⟨true, 1000000⟩ ∧
    entryBytes .rate 0 T = [1] ++ beBytes 4 1000000

/-- R183: ACTIVATE with none pending leaves the head without a reply and each port at a frame boundary changes its bank, at once;
with one pending it is refused. R184: the last change, in that step or at a PORT_BANK_SWITCH, of U or of a segment port,
completes the activation: the banks exchange, both hold the new contents, the stations whose role, segment or unit index
differs go ABSENT, and the ACTIVATE's reply, with the bank and their number, is placed or waits; an earlier change changes one
port's bank alone. That a port changes in a step of its own is assumption 12, that the number counts a station that was ABSENT
already assumption 17, and that the reply waits although a slot is free, because others wait before it, assumption 8. -/
def Obligations.ActivationSwitchesThePorts : Prop :=
  (∀ (s : State),
     (∀ c, s.AtHead c 0x18 → c.params = [] →
       (s.store.activation ≠ none → s.ReplyRoom →
         exec .activate s = .next (s.completed c (some .activationPending) [])) ∧
       (s.store.activation = none → ∀ p : Fin 4, (s.links.segs.get p).hand ≠ none →
         (s.links.segs.get p).bank = s.store.active →
         ∃ t, exec .activate s = .next t ∧ t.store = { s.store with activation := some c.tag } ∧
           t.mgmt.queue = s.mgmt.queue.drop 1 ∧ t.links.uplink = s.links.uplink ∧ t.books = s.books ∧
           t.admission = s.admission ∧
           (t.links.uport.bank = if s.links.uport.hand = none then s.store.staged else s.links.uport.bank) ∧
           ∀ q, (t.links.segs.get q).bank =
             if (s.links.segs.get q).hand = none then s.store.staged else (s.links.segs.get q).bank)) ∧
     (∀ tag (p : Fin 4), s.store.activation = some tag → (s.links.segs.get p).hand = none →
       (s.links.segs.get p).bank = s.store.active → s.links.uport.bank = s.store.staged →
       (∀ q, q ≠ p → (s.links.segs.get q).bank = s.store.staged) →
       ∃ t, exec (.portBankSwitch (.s p)) s = .next t ∧ t.store.active = s.store.staged ∧
         t.store.activation = none ∧ t.store.bank0 = s.store.bank s.store.staged ∧
         t.store.bank1 = s.store.bank s.store.staged ∧ (t.links.segs.get p).bank = s.store.staged ∧
         t.books = s.books ∧
         ∀ a : Fin 256, t.admission.get a =
           (if a ≠ 0 ∧ a ≠ 255 ∧ (((s.store.bank s.store.active).station (BitVec.ofFin a)).moved
             ((s.store.bank s.store.staged).station (BitVec.ofFin a))) = true then .absent
           else s.admission.get a))) ∧
  (∀ (s : State) (c : Command), s.AtHead c 0x18 → c.params = [] → s.store.activation = none →
     s.links.uport.hand ≠ none → s.links.uport.bank = s.store.active →
     ∃ t, exec .activate s = .next t ∧ t.store = { s.store with activation := some c.tag } ∧
       t.mgmt.queue = s.mgmt.queue.drop 1 ∧ t.links.uplink = s.links.uplink ∧ t.books = s.books ∧
       t.admission = s.admission ∧ t.links.uport = s.links.uport ∧
       ∀ q, t.links.segs.get q = { s.links.segs.get q with
         bank := if (s.links.segs.get q).hand = none then s.store.staged else (s.links.segs.get q).bank }) ∧
  (∀ (s : State) (tag : BitVec 16), s.store.activation = some tag →
     (∀ p : Fin 4, (s.links.segs.get p).hand = none → (s.links.segs.get p).bank = s.store.active →
       (s.links.uport.bank = s.store.active ∨ ∃ q, q ≠ p ∧ (s.links.segs.get q).bank = s.store.active) →
       exec (.portBankSwitch (.s p)) s = .next { s with links := { s.links with
         segs := s.links.segs.set p { s.links.segs.get p with bank := s.store.staged } } }) ∧
     (s.links.uport.hand = none → s.links.uport.bank = s.store.active →
       (∃ q, (s.links.segs.get q).bank = s.store.active) →
       exec (.portBankSwitch .u) s = .next { s with links := { s.links with
         uport := { s.links.uport with bank := s.store.staged } } })) ∧
  ∀ (s : State) (tag : BitVec 16) (moved : Fin 256 → Bool) (M : Tab Admission 256) (done : State → State),
    (∀ a e f, e = (s.store.bank s.store.active).station (BitVec.ofFin a) →
      f = (s.store.bank s.store.staged).station (BitVec.ofFin a) →
      (moved a = true ↔ a ≠ 0 ∧ a ≠ 255 ∧
        (e.role.code ≠ f.role.code ∨ e.segment ≠ f.segment ∨ e.role.unit ≠ f.role.unit))) →
    (∀ a, M.get a = if moved a = true then .absent else s.admission.get a) →
    (∀ u v : State, v = { u with
        store := ⟨s.store.bank s.store.staged, s.store.bank s.store.staged, s.store.staged, none⟩, admission := M } →
      ∀ bs, bs = oneByte s.store.staged.val ++ twoBytes ((List.finRange 256).filter moved).length →
      (v.ReplyRoom → done u = v.said ⟨tag, 0x18, []⟩ none bs) ∧
      (¬ v.ReplyRoom → done u = { v with links := { v.links with
        waits := v.links.waits ++ [.reply ⟨tag, 0x18, none, bs⟩ .activate] } })) →
    (∀ c, s.AtHead c 0x18 → c.params = [] → c.tag = tag → s.store.activation = none → s.links.uport.hand = none →
      (∀ p, (s.links.segs.get p).hand = none) →
      exec .activate s = .next (done { s with
        mgmt := { s.mgmt with queue := s.mgmt.queue.drop 1 }
        links := { s.links with
          segs := s.links.segs.map fun g => { g with bank := s.store.staged }
          uport := { s.links.uport with bank := s.store.staged } } })) ∧
    (s.store.activation = some tag →
      (∀ p : Fin 4, (s.links.segs.get p).hand = none → (s.links.segs.get p).bank = s.store.active →
        s.links.uport.bank = s.store.staged → (∀ q, q ≠ p → (s.links.segs.get q).bank = s.store.staged) →
        exec (.portBankSwitch (.s p)) s = .next (done { s with links := { s.links with
          segs := s.links.segs.set p { s.links.segs.get p with bank := s.store.staged } } })) ∧
      (s.links.uport.hand = none → s.links.uport.bank = s.store.active →
        (∀ q, (s.links.segs.get q).bank = s.store.staged) →
        exec (.portBankSwitch .u) s = .next (done { s with links := { s.links with
          uport := { s.links.uport with bank := s.store.staged } } })))

/-! ## Management (chapter 11) -/

/-- R186: a management frame's commands are handled in payload order, an immediate one carried out and any other joining
the queue, where the queued ones all fit; where they do not, one QUEUE_FULL reply answers for all of those and the
immediate ones follow it; a payload that cannot be cut is refused whole. R189: READ_STATUS, RESUME and FLUSH, malformed
with parameters; a FLUSH keeps a head whose reply waits. R154: a reply offered is placed or waits. That the rows
READ_STATUS, RESUME and FLUSH are frames that carry that one command is assumption 11, that DISCARDED replies show QSTALL
down assumption 15, the layout of the READ_STATUS reply assumptions 22 and 38, and that a reply waits although a slot is
free, because others wait before it, assumption 8; that one may take a freed slot before a waiting port is granted it,
assumption 42. R186: a payload is cut into commands where it is the headers and parameters of one command or more, back to
back. R189: what READ_STATUS replies, item by item. -/
def Obligations.ManagementFramesAndImmediateCommands : Prop :=
  ((∀ (s : State) (b : FrameBody) (h : UpHand) (u : State), s.links.uport.hand = some h → h.hdr.dst = 0 →
      receiveOk h.hdr b = true →
      u = { s with links := { s.links with uport := { s.links.uport with hand := none } } } →
      (commandsOf b.payload = none →
        exec (.managementFrame b) s = .next (u.offerReply ⟨0, 0, some .malformed, []⟩ .nothing)) ∧
      ∀ (cs : List Command) (queued : List Command), commandsOf b.payload = some cs →
        queued = cs.filter (fun c => c.code != 0x1E && c.code != 0x1F && c.code != 0x20) →
        (s.mgmt.queue.length + queued.length ≤ 32 ∨ queued = [] →
          exec (.managementFrame b) s = .next (cs.foldl (fun v c =>
            if c.code = 0x1E ∨ c.code = 0x1F ∨ c.code = 0x20 then v.immediate c
            else { v with mgmt := { v.mgmt with queue := v.mgmt.queue ++ [c] } }) u)) ∧
        (32 < s.mgmt.queue.length + queued.length → ∀ c rest, queued = c :: rest →
          exec (.managementFrame b) s = .next
            ((cs.filter fun c => c.code == 0x1E || c.code == 0x1F || c.code == 0x20).foldl State.immediate
              (u.offerReply ⟨c.tag, c.code, some .queueFull, twoBytes queued.length⟩ .nothing)))) ∧
   (∀ (s : State) (b : FrameBody) (h : UpHand) (u : State) (tag : BitVec 16) (code : Byte),
      s.links.uport.hand = some h → h.hdr.dst = 0 → receiveOk h.hdr b = true →
      u = { s with links := { s.links with uport := { s.links.uport with hand := none } } } →
      b.payload = beBytes 2 tag.toNat ++ [code, 0, 0] →
      (code = 0x1E → exec (.readStatus b) s = .next (u.immediate ⟨tag, code, []⟩)) ∧
      (code = 0x1F → exec (.resume b) s = .next (u.immediate ⟨tag, code, []⟩)) ∧
      (code = 0x20 → exec (.flush b) s = .next (u.immediate ⟨tag, code, []⟩))) ∧
   ∀ (u : State) (k : Command),
     (k.params ≠ [] → u.immediate k = u.offerReply ⟨k.tag, k.code, some .malformed, []⟩ .nothing) ∧
     (k.code = 0x1E → k.params = [] → u.immediate k = u.offerReply ⟨k.tag, k.code, none, u.statusBytes⟩ .nothing) ∧
     (k.code = 0x1F → k.params = [] →
       (u.mgmt.stalled = false ∨ u.mgmt.queue = [] →
         u.immediate k = u.offerReply ⟨k.tag, k.code, some .badState, []⟩ .nothing) ∧
       (u.mgmt.stalled = true → ∀ c rest, u.mgmt.queue = c :: rest →
         u.immediate k =
           (({ u with mgmt := ⟨rest, false, .fresh⟩ } : State).offerReply ⟨c.tag, c.code, some .discarded, []⟩
             .nothing).offerReply ⟨k.tag, k.code, none, []⟩ .nothing)) ∧
     (k.code = 0x20 → k.params = [] →
       (u.mgmt.phase ≠ .replyWaiting → u.immediate k =
         (u.mgmt.queue.foldl (fun v c => v.offerReply ⟨c.tag, c.code, some .discarded, []⟩ .nothing)
           ({ u with mgmt := ⟨[], false, .fresh⟩ } : State)).offerReply
             ⟨k.tag, k.code, none, twoBytes u.mgmt.queue.length⟩ .nothing) ∧
       (u.mgmt.phase = .replyWaiting → ∀ c rest, u.mgmt.queue = c :: rest → u.immediate k =
         (rest.foldl (fun v c => v.offerReply ⟨c.tag, c.code, some .discarded, []⟩ .nothing)
           ({ u with mgmt := ⟨[c], false, .replyWaiting⟩ } : State)).offerReply
             ⟨k.tag, k.code, none, twoBytes rest.length⟩ .nothing)) ∧
     ∀ (refusal : Option Reason) (result : List Byte),
       (u.ReplyRoom → u.offerReply ⟨k.tag, k.code, refusal, result⟩ .nothing = u.said k refusal result) ∧
       (¬ u.ReplyRoom → u.offerReply ⟨k.tag, k.code, refusal, result⟩ .nothing = { u with links := { u.links with
         waits := u.links.waits ++ [.reply ⟨k.tag, k.code, refusal, result⟩ .nothing] } })) ∧
  (∀ (payload : List Byte) (cs : List Command), commandsOf payload = some cs ↔
     cs ≠ [] ∧ (∀ c ∈ cs, c.params.length < 65536) ∧
       payload = (cs.map fun c =>
         beBytes 2 c.tag.toNat ++ [c.code] ++ beBytes 2 c.params.length ++ c.params).flatten) ∧
  ∀ (u : State) (stalled : List Byte) (forwards others : Nat),
    (((u.mgmt.stalled = false ∨ u.mgmt.queue = []) ∧ stalled = [0]) ∨
      ∃ c rest r, u.mgmt.stalled = true ∧ u.mgmt.queue = c :: rest ∧ c.stallReason = some r ∧
        stalled = [1] ++ beBytes 2 c.tag.toNat ++ [c.code] ++ oneByte r.code) →
    forwards = (u.links.uplink.filter fun f => f.cls == .forward).length →
    forwards + others = u.links.uplink.length →
    u.statusBytes = twoBytes u.links.uport.errors ++
      ((List.finRange 4).map fun p => twoBytes (u.links.segs.get p).errors).flatten ++
      beBytes 4 u.links.movement.toNat ++ twoBytes u.mgmt.queue.length ++ stalled ++
      oneByte u.store.active.val ++ oneByte u.links.uport.bank.val ++
      ((List.finRange 4).map fun p => oneByte (u.links.segs.get p).bank.val).flatten ++ fourBytes u.clock.tod ++
      ((List.finRange 8).map fun k => flagByte (u.notices.get k).enabled ++ flagByte (u.notices.get k).pending).flatten ++
      twoBytes forwards ++ twoBytes others ++ twoBytes u.links.waits.length

/-- R188: the queue stalls at a head that names no command or whose parameters are malformed, for every command. R187: a
FENCE completes as it is taken where every earlier command is complete, no activation pending and no ACTIVATE's reply
waiting, and otherwise waits at the head until then; where its own reply waits, it stays at the head until that is placed,
and its fence done source follows its notify flag. That an ACTIVATE whose reply waits holds it back, and when the source
is set, are assumption 14; that no discarded command does is assumption 36; that a FENCE's reply waits although a slot is
free, because others wait before it, is assumption 8; that QUEUE_STALL at a good head and FENCE_COMPLETE too early change
nothing is assumption 1. R188, section 8.6: the parameters of each command are well formed where they read as its layout
gives. -/
def Obligations.QueueStallAndFence : Prop :=
  ((∀ (s : State) (c : Command) (rest : List Command), s.mgmt.queue = c :: rest → s.mgmt.stalled = false →
      s.mgmt.phase = .fresh →
      (c.stallReason.isSome = true →
        exec .queueStall s = .next (({ s with mgmt := { s.mgmt with stalled := true } } : State).setSource .stalled)) ∧
      (c.stallReason = none → exec .queueStall s = .next s)) ∧
   (∀ c : Command,
      (c.code = 0 ∨ 0x1D < c.code.toNat → c.stallReason = some .unknownCommand) ∧
      (c.code ≠ 0 → c.code.toNat ≤ 0x1D → c.stallReason = none ∨ c.stallReason = some .malformed) ∧
      ((c.code = 0x03 ∨ c.code = 0x15 ∨ c.code = 0x18 ∨ c.code = 0x1D) → (c.stallReason = none ↔ c.params = [])) ∧
      (c.code = 0x1A → (c.stallReason = none ↔ c.params.length = 4 ∧ beValue c.params < 86400)) ∧
      (∀ n, (n = 2 ∧ (c.code = 0x0B ∨ c.code = 0x11 ∨ c.code = 0x12)) ∨ (n = 160 ∧ c.code = 0x06) ∨
          (n = 8 ∧ (c.code = 0x0F ∨ c.code = 0x10 ∨ c.code = 0x1C)) →
        (c.stallReason = none ↔ ∃ v : Byte, c.params = [v] ∧ v.toNat < n))) ∧
   ∀ (s : State) (c : Command) (notify : Bool) (done : Prop), c.code = 0x19 → readNotify c.params = some notify →
     (∃ rest, s.mgmt.queue = c :: rest) →
     (done ↔ s.store.activation = none ∧ ∀ r, WaitItem.reply r .activate ∉ s.links.waits) →
     (s.AtHead c 0x19 →
       (done → s.ReplyRoom → exec .fence s =
         .next (if notify then (s.completed c none []).setSource .fenceDone else s.completed c none [])) ∧
       (done → ¬ s.ReplyRoom → exec .fence s = .next { s with
         links := { s.links with waits := s.links.waits ++ [.reply ⟨c.tag, c.code, none, []⟩ (.fence notify)] }
         mgmt := { s.mgmt with phase := .replyWaiting } }) ∧
       (¬ done → exec .fence s = .next { s with mgmt := { s.mgmt with phase := .fenceWaiting } })) ∧
     (s.mgmt.phase = .fenceWaiting →
       (done → s.ReplyRoom → exec .fenceComplete s =
         .next (if notify then (s.completed c none []).setSource .fenceDone else s.completed c none [])) ∧
       (done → ¬ s.ReplyRoom → exec .fenceComplete s = .next { s with
         links := { s.links with waits := s.links.waits ++ [.reply ⟨c.tag, c.code, none, []⟩ (.fence notify)] }
         mgmt := { s.mgmt with phase := .replyWaiting } }) ∧
       (¬ done → exec .fenceComplete s = .next s))) ∧
  ∀ c : Command,
    (c.code = 0x01 → (c.stallReason = none ↔ ∃ q, readDeclared c.params = some q)) ∧
    (c.code = 0x02 → (c.stallReason = none ↔ ∃ q, readPositionsSel c.params = some q)) ∧
    (c.code = 0x04 → (c.stallReason = none ↔ ∃ q, readDepositSel c.params = some q)) ∧
    (c.code = 0x05 → (c.stallReason = none ↔ ∃ q, readFloatIssue c.params = some q)) ∧
    (c.code = 0x07 → (c.stallReason = none ↔ ∃ q, readCloseCall c.params = some q)) ∧
    (c.code = 0x08 → (c.stallReason = none ↔ ∃ q, readTillSel c.params = some q)) ∧
    (c.code = 0x09 → (c.stallReason = none ↔ ∃ q, readSafeSel c.params = some q)) ∧
    (c.code = 0x0A → (c.stallReason = none ↔ ∃ q, readLaneRange c.params = some q)) ∧
    (c.code = 0x0C → (c.stallReason = none ↔ ∃ q, readConsignLoad c.params = some q)) ∧
    (c.code = 0x0D → (c.stallReason = none ↔ ∃ q, readConsignAdd c.params = some q)) ∧
    (c.code = 0x0E → (c.stallReason = none ↔ ∃ q, readConsignRemove c.params = some q)) ∧
    (c.code = 0x13 → (c.stallReason = none ↔ ∃ q, readDockSel c.params = some q)) ∧
    (c.code = 0x14 → (c.stallReason = none ↔ ∃ q, readFaultClear c.params = some q)) ∧
    (c.code = 0x16 → (c.stallReason = none ↔ ∃ q, readTableWrite c.params = some q)) ∧
    (c.code = 0x17 → (c.stallReason = none ↔ ∃ q, readTableRead c.params = some q)) ∧
    (c.code = 0x19 → (c.stallReason = none ↔ ∃ q, readNotify c.params = some q)) ∧
    (c.code = 0x1B → (c.stallReason = none ↔ ∃ q, readNoticeEnable c.params = some q))

/-- R190: the time of day rises by 1 at each second and rolls over; SET_TIME sets it and lowers TIME_UNSET. R187, R154:
where its reply is not placed at once, SET_TIME stays at the head, acted on, until it is. So does every other queued
command, and an ACTIVATE that is refused: it has the effect it has with room for its reply, the reply joins the waiting
list, and it is not acted on again. What ACTIVATE, FENCE, NOTICE_ENABLE and READ_SOURCES do without room stands in their
own statements, and a SOFT_RESET always has room. That the step of a second also takes one from every running timer, and
from a qualification's two timers together while neither is at 0, is assumption 6; that a reply waits although a slot is
free, because others wait before it, is assumption 8. -/
def Obligations.TimeOfDayAndWaitingReplies : Prop :=
  ((∀ (s : State) (c : Command) (t : Nat), s.AtHead c 0x1A → readTimeOfDay c.params = some t →
      (s.ReplyRoom → exec .setTime s = .next (({ s with clock := ⟨t, false⟩ } : State).completed c none
        (fourBytes s.clock.tod ++ flagByte s.clock.unset))) ∧
      (¬ s.ReplyRoom → exec .setTime s = .next (({ s with clock := ⟨t, false⟩ } : State).replyWaits c none
        (fourBytes s.clock.tod ++ flagByte s.clock.unset)))) ∧
   ∀ (s : State),
     s.clock.tod < 86400 → ∃ t, exec .timeOfDayTick s = .next t ∧
       t = { s with clock := t.clock, books := t.books, admission := t.admission } ∧
       t.clock = ⟨if s.clock.tod = 86399 then 0 else s.clock.tod + 1, s.clock.unset⟩ ∧
       t.books = { s.books with deposits := t.books.deposits, tills := t.books.tills, safes := t.books.safes
                                transfers := t.books.transfers, lanes := t.books.lanes, docks := t.books.docks } ∧
       (∀ i, t.books.deposits.get i =
         (s.books.deposits.get i).map fun d => { d with carry := d.carry.map fun n => n - 1 }) ∧
       (∀ i, t.books.tills.get i = { s.books.tills.get i with
         timer := (s.books.tills.get i).timer.map fun k => { k with remaining := k.remaining - 1 } }) ∧
       (∀ i, t.books.safes.get i = { s.books.safes.get i with
         reservation := (s.books.safes.get i).reservation.map fun r => { r with grant := r.grant - 1 } }) ∧
       (∀ i, t.books.transfers.get i = (s.books.transfers.get i).map fun e => { e with
         timer := e.timer.map fun k => { k with remaining := k.remaining - 1 } }) ∧
       (∀ i, t.books.lanes.get i = { s.books.lanes.get i with
         session := (s.books.lanes.get i).session.map fun ss => { ss with
           idle := { ss.idle with remaining := ss.idle.remaining - 1 } } }) ∧
       (∀ d, t.books.docks.get d = { s.books.docks.get d with
         qualify := (s.books.docks.get d).qualify.map fun q =>
           if q.qual = 0 ∨ q.gap = 0 then q else { q with qual := q.qual - 1, gap := q.gap - 1 }
         pairing := (s.books.docks.get d).pairing.map fun n => n - 1
         limit := (s.books.docks.get d).limit.map fun n => n - 1
         lockout := (s.books.docks.get d).lockout.map fun n => n - 1 }) ∧
       ∀ a, t.admission.get a = (match s.admission.get a with
         | .welcomed p n => .welcomed p (n - 1)
         | e => e)) ∧
  (∀ (i : Instr) (code : Byte), (i, code) ∈ (
       [(.opening, 0x01), (.readPositions, 0x02), (.purgeClosed, 0x03), (.readDeposit, 0x04),
        (.floatIssue, 0x05), (.floatRecall, 0x06), (.closeCall, 0x07), (.readTill, 0x08), (.readSafe, 0x09),
        (.readLane, 0x0A), (.consignCreate, 0x0B), (.consignLoad, 0x0C), (.consignAdd, 0x0D),
        (.consignRemove, 0x0E), (.consignReady, 0x0F), (.consignCancel, 0x10), (.openHandover, 0x11),
        (.dockUnlock, 0x12), (.readDock, 0x13), (.faultClear, 0x14), (.readFaults, 0x15), (.tableWrite, 0x16),
        (.tableRead, 0x17)] : List (Instr × Byte)) →
     ∀ (s : State) (roomy : State → State),
       (∀ v, roomy v = { v with links := { v.links with uplink := [], waits := [] } }) →
       (∀ c, s.AtHead c code → c.stallReason = none → ¬ s.ReplyRoom →
         ∃ u refusal result, exec i s = .next (u.replyWaits c refusal result) ∧
           exec i (roomy s) = .next ((roomy u).completed c refusal result) ∧ (roomy s).ReplyRoom ∧
           u.links.uplink = s.links.uplink ∧ u.links.waits = s.links.waits ∧ u.mgmt = s.mgmt) ∧
       (s.mgmt.phase = .replyWaiting → exec i s = .next s)) ∧
  ∀ (s : State) (c : Command), s.AtHead c 0x18 → c.params = [] → s.store.activation ≠ none → ¬ s.ReplyRoom →
    exec .activate s = .next (s.replyWaits c (some .activationPending) [])

/-- R192: READ_SOURCES replies a class's sources and clears them with its pending flag and its waiting notice.
NOTICE_ENABLE sets and clears enables and leaves every source; a class it disables loses its waiting notice; each newly
enabled class with pending set has its NOTICE offered, which is placed at once or waits; and the reply carries every
class's enable and pending flag after it. The order of several such notices, and that they come before the reply, are
assumption 28; that a NOTICE or a reply waits although a slot is free, because others wait before it, is assumption 8;
that one may take a freed slot before a waiting port is granted it is assumption 42. -/
def Obligations.NoticeClassesAreReadAndEnabled : Prop :=
  (∀ (s : State) (c : Command) (k : Fin 8) (u : State), s.AtHead c 0x1C → readIndex 8 c.params = some k →
     u = { s with
       notices := s.notices.set k ⟨⟨false, false, false, false⟩, (s.notices.get k).enabled, false⟩
       links := { s.links with waits := s.links.waits.filter fun w => w != .notice k } } →
     ∀ bs, bs = [BitVec.ofNat 8 ((s.notices.get k).sources.c0.toNat + 2 * (s.notices.get k).sources.c1.toNat +
       4 * (s.notices.get k).sources.c2.toNat + 8 * (s.notices.get k).sources.c3.toNat)] →
     (u.ReplyRoom → exec .readSources s = .next (u.completed c none bs)) ∧
     (¬ u.ReplyRoom → exec .readSources s = .next (u.replyWaits c none bs))) ∧
  (∀ (s : State) (c : Command) (q : NoticeEnable) (N : Tab NoticeClass 8) (v : State), s.AtHead c 0x1B →
     readNoticeEnable c.params = some q →
     (∀ k, N.get k = { s.notices.get k with
       enabled := if q.enable.getLsbD k.val = true then true
         else if q.disable.getLsbD k.val = true then false else (s.notices.get k).enabled }) →
     v = ((List.finRange 8).filter fun k =>
         q.enable.getLsbD k.val && !(s.notices.get k).enabled && (s.notices.get k).pending).foldl State.offerNotice
       { s with
         notices := N
         links := { s.links with waits := s.links.waits.filter fun w =>
           match w with
           | .notice k => !q.disable.getLsbD k.val
           | .reply _ _ => true } } →
     ∀ bs, bs = (v.notices.rows.map fun n => flagByte n.enabled ++ flagByte n.pending).flatten →
     (v.ReplyRoom → exec .noticeEnable s = .next (v.completed c none bs)) ∧
     (¬ v.ReplyRoom → exec .noticeEnable s = .next (v.replyWaits c none bs))) ∧
  ∀ (u : State) (k : Fin 8),
    (u.ReplyRoom → u.offerNotice k = u.noticed k) ∧ (¬ u.ReplyRoom → u.offerNotice k = u.noticeWaits k)

/-- R27: OPENING on an account all of zeros, as it is after power-on, with its currencies enabled, puts L in the reserve and
the accountability; on any other account it is refused with BAD_STATE. -/
def Obligations.OpeningNeedsAnEmptyAccount : Prop :=
  ∀ (s : State) (c : Command) (l : DeclaredList), s.AtHead c 0x01 → readDeclared c.params = some l → s.ReplyRoom →
    (s.books.pos ≠ Positions.powerOn →
      exec .opening s = .next (s.completed c (some .badState) [])) ∧
    (s.books.pos = Positions.powerOn →
      (s.activeTables.currenciesEnabled l = false →
        exec .opening s = .next (s.completed c (some .currencyDisabled) [])) ∧
      (s.activeTables.currenciesEnabled l = true →
        exec .opening s = .next ((s.withBooks { s.books with
          pos := { Positions.powerOn with reserve := storedList l, accountability := storedList l } }).completed c
            none [])))

/-- R36, R52, R75, R98, R121, R148, R176: a read replies and changes nothing. READ_DEPOSIT gives each record of a range in
index order, the live record of a number, or the counts by state, CLOSED by outcome, with the live OVERDUE records and the
next index of a creation request (R41). The clauses after the commands say, field by field, which values each reply holds,
in the encodings of section 8.6. The layouts of the replies are assumptions 22, 32, 33, 34, 38, 39 and 40. -/
def Obligations.ReadsReplyAndChangeNothing : Prop :=
  (∀ (s : State) (c : Command), s.ReplyRoom →
     (∀ q, s.AtHead c 0x02 → readPositionsSel c.params = some q →
       exec .readPositions s = .next (s.completed c none (readPositions q s.books.pos))) ∧
     (∀ q, s.AtHead c 0x04 → readDepositSel c.params = some q →
       (∀ n, q = .number n → s.books.findLive n = none →
         exec .readDeposit s = .next (s.completed c (some .unknownNumber) [])) ∧
       (∀ n i, q = .number n → s.books.findLive n = some i →
         exec .readDeposit s = .next (s.completed c none (depositBytes i (s.books.deposits.get i)))) ∧
       (∀ (i : Fin 512) (n : Nat) (is : List (Fin 512)), q = .index (i, n) →
         is.map (fun j => j.val) = List.range' i.val n →
         exec .readDeposit s = .next (s.completed c none
           (is.map fun j => depositBytes j (s.books.deposits.get j)).flatten)) ∧
       (q = .summary → ∀ (count : (Deposit → Bool) → List Byte) (counts : List Byte),
         (∀ p, count p = twoBytes ((List.finRange 512).filter fun i => (s.books.deposits.get i).any p).length) →
         counts = twoBytes ((List.finRange 512).filter fun i => (s.books.deposits.get i).isNone).length ++
           count (fun d => d.state == .carried) ++ count (fun d => d.state == .inSafe) ++
           count (fun d => d.state == .inTransfer) ++ count (fun d => d.state == .awaitingCount) ++
           count (fun d => d.state == .counting) ++ count (fun d => d.state == .consigned) ++
           count (fun d => d.state == .discrepant) ++
           count (fun d => d.state == .closed && d.outcome == some .counted) ++
           count (fun d => d.state == .closed && d.outcome == some .released) ++
           count (fun d => d.state == .closed && d.outcome == some .departed) ++
           count (fun d => d.state != .closed && d.overdue) →
         (∀ i, ((s.books.deposits.get i = none ∧ ∀ j, j < i → s.books.deposits.get j ≠ none) ∨
             ((∀ j, s.books.deposits.get j ≠ none) ∧ ∃ rest, s.books.closeOrder = i :: rest)) →
           exec .readDeposit s = .next (s.completed c none (counts ++ [1] ++ twoBytes i.val))) ∧
         ((∀ j, s.books.deposits.get j ≠ none) → s.books.closeOrder = [] →
           exec .readDeposit s = .next (s.completed c none (counts ++ [0]))))) ∧
     (∀ q, s.AtHead c 0x08 → readTillSel c.params = some q →
       exec .readTill s = .next (s.completed c none (readTill q s.books))) ∧
     (∀ q, s.AtHead c 0x09 → readSafeSel c.params = some q →
       exec .readSafe s = .next (s.completed c none (readSafe q s.books))) ∧
     (∀ q, s.AtHead c 0x0A → readLaneRange c.params = some q →
       exec .readLane s = .next (s.completed c none (eachOf q (laneBytes s.books)))) ∧
     (∀ q, s.AtHead c 0x13 → readDockSel c.params = some q →
       exec .readDock s = .next (s.completed c none (readDock q s.books))) ∧
     (s.AtHead c 0x15 → c.params = [] →
       exec .readFaults s = .next (s.completed c none s.recorder.bytes))) ∧
  -- READ_POSITIONS
  (∀ (p : Positions) (drawers transits loads held accounted : Amounts),
     (∀ c, drawers.get c = ((List.finRange 160).map fun t => (p.drawer.get t).get c).sum ∧
       transits.get c = ((List.finRange 160).map fun t => (p.transit.get t).get c).sum ∧
       loads.get c = ((List.finRange 8).map fun k => (p.loaded.get k).get c).sum ∧
       held.get c = drawers.get c + transits.get c + p.reserve.get c + p.suspect.get c + loads.get c +
         p.uncounted.get c ∧
       accounted.get c = p.accountability.get c + p.variance.get c) →
     readPositions .central p = listBytes p.reserve ++ listBytes p.suspect ++ listBytes p.uncounted ++
       listBytes p.accountability ++ listBytes p.variance ++ listBytes drawers ++ listBytes transits ++
       listBytes loads ++ listBytes held ++ listBytes accounted) ∧
  (∀ (p : Positions) (i : Fin 160) (n : Nat) (is : List (Fin 160)), is.map (fun j => j.val) = List.range' i.val n →
     readPositions (.tills (i, n)) p =
       (is.map fun t => listBytes (p.drawer.get t) ++ listBytes (p.transit.get t)).flatten) ∧
  (∀ p : Positions, readPositions .consignments p =
     ((List.finRange 8).map fun k => listBytes (p.loaded.get k)).flatten) ∧
  -- READ_DEPOSIT
  (∀ (bk : Books) (n : Nat),
     (∀ i d, bk.deposits.get i = some d → d.state ≠ .closed → d.number = n →
       (∀ j e, j < i → bk.deposits.get j = some e → e.state = .closed ∨ e.number ≠ n) → bk.findLive n = some i) ∧
     ((∀ i d, bk.deposits.get i = some d → d.state = .closed ∨ d.number ≠ n) → bk.findLive n = none)) ∧
  (∀ (i : Fin 512) (d : Deposit),
     depositBytes i none = twoBytes i.val ++ List.replicate 18 0 ∧
     depositBytes i (some d) = twoBytes i.val ++ oneByte d.state.code ++
       maybeBytes (fun o => oneByte o.code) d.outcome ++ [1] ++ oneByte d.kind.code ++ [1] ++ fourBytes d.number ++
       [1] ++ d.source.bytes ++ [1] ++ listBytes d.declared ++ [1] ++ amountBytes d.base ++
       maybeBytes Holder.bytes d.holder ++ maybeBytes (fun r => listBytes r.counted) d.result ++
       maybeBytes (fun r => listBytes r.suspect) d.result ++ maybeBytes (fun r => oneByte r.verdict.code) d.result ++
       maybeBytes (fun r => amountBytes r.variance) d.result ++ maybeBytes twoBytes d.countingStaff ++
       maybeBytes twoBytes d.releasingStaff ++ [1] ++ fourBytes d.created ++ maybeBytes fourBytes d.closed ++
       maybeBytes twoBytes d.carry ++ [1] ++ flagByte d.overdue) ∧
  -- READ_TILL
  (∀ (bk : Books) (i : Fin 160) (n : Nat) (is : List (Fin 160)), is.map (fun j => j.val) = List.range' i.val n →
     readTill (.index (i, n)) bk = (is.map fun t => oneByte (bk.tills.get t).state.code ++
       listBytes (bk.pos.drawer.get t) ++ listBytes (bk.pos.transit.get t) ++
       maybeBytes listBytes (bk.tills.get t).floatIssued ++
       maybeBytes (fun k => twoBytes k.remaining ++ twoBytes k.full) (bk.tills.get t).timer ++
       flagByte (bk.tills.get t).closeCalled ++ twoBytes (bk.tills.get t).pickups ++
       maybeBytes fourBytes (bk.tills.get t).lastMove).flatten) ∧
  (∀ (bk : Books) (count : (Till → Bool) → List Byte),
     (∀ p, count p = twoBytes ((List.finRange 160).filter fun t => p (bk.tills.get t)).length) →
     readTill .summary bk = count (fun r => r.state == .closed) ++ count (fun r => r.state == .floatTransit) ++
       count (fun r => r.state == .opened) ++ count (fun r => r.state == .pickupDue) ++
       count (fun r => r.state == .pickupOverdue) ++ count (fun r => r.closeCalled)) ∧
  -- READ_SAFE
  (∀ (bk : Books) (i : Fin 16) (n : Nat) (is : List (Fin 16)) (bag : Bag → List Byte),
     is.map (fun j => j.val) = List.range' i.val n →
     (∀ g, bag g = oneByte g.state.code ++ twoBytes g.pouches.length ++ amountBytes g.value ++
       twoBytes g.pouches.length ++ (g.pouches.map fun d => twoBytes d.val).flatten) →
     readSafe (.safe (i, n)) bk = (is.map fun j => oneByte (bk.safes.get j).state.code ++
       bag (bk.safes.get j).bagA ++ bag (bk.safes.get j).bagB ++
       maybeBytes (fun r => fourBytes r.number ++ twoBytes r.deposit.val ++ oneByte r.side.code ++ twoBytes r.grant)
         (bk.safes.get j).reservation ++
       flagByte (bk.safes.get j).overfill ++
       flagByte ((bk.safes.get j).bagA.state == .full || (bk.safes.get j).bagB.state == .full)).flatten) ∧
  (∀ (bk : Books) (i : Fin 32) (n : Nat) (is : List (Fin 32)), is.map (fun j => j.val) = List.range' i.val n →
     readSafe (.transfer (i, n)) bk = (is.map fun j => maybeBytes (fun t => fourBytes t.bag ++ oneByte t.safe.val ++
       oneByte t.side.code ++ twoBytes t.deposits.length ++ (t.deposits.map fun d => twoBytes d.val).flatten ++
       amountBytes t.value ++ twoBytes t.staff ++ fourBytes t.timeOut ++
       maybeBytes (fun k => twoBytes k.remaining ++ twoBytes k.full) t.timer ++ flagByte t.late)
         (bk.transfers.get j)).flatten) ∧
  -- READ_LANE
  (∀ (bk : Books) (i : Fin 6) (n : Nat) (is : List (Fin 6)) (counts : Tab Nat 32 → List Byte),
     is.map (fun j => j.val) = List.range' i.val n →
     (∀ t, counts t = twoBytes ((List.finRange 32).filter fun d => t.get d != 0).length ++
       (((List.finRange 32).filter fun d => t.get d != 0).map fun d =>
         oneByte d.val ++ piecesBytes (t.get d)).flatten) →
     eachOf (i, n) (laneBytes bk) = (is.map fun j =>
       oneByte (if (bk.lanes.get j).session.isSome then 1 else 0) ++
       maybeBytes (fun ss => twoBytes ss.deposit.val ++ fourBytes (match bk.deposits.get ss.deposit with
         | some d => d.number
         | none => 0)) (bk.lanes.get j).session ++
       maybeBytes (fun ss => twoBytes ss.staff) (bk.lanes.get j).session ++
       counts (bk.lanes.get j).counts ++ counts (bk.lanes.get j).suspects ++
       twoBytes (bk.lanes.get j).bundle.length ++ ((bk.lanes.get j).bundle.map fun e =>
         oneByte (match e.kind with | .note => 0 | .coin => 1 | .suspect => 2) ++ oneByte e.denom.val ++
           piecesBytes e.count).flatten ++
       maybeBytes (fun ss => twoBytes ss.idle.remaining ++ twoBytes ss.idle.full)
         (bk.lanes.get j).session).flatten) ∧
  -- READ_DOCK
  (∀ (bk : Books) (i : Fin 2) (n : Nat) (is : List (Fin 2)), is.map (fun j => j.val) = List.range' i.val n →
     readDock (.handover (i, n)) bk = (is.map fun j => oneByte (bk.docks.get j).state.code ++
       maybeBytes (fun v => oneByte v.station.toNat ++ oneByte v.segment.val ++ twoBytes v.courier)
         (bk.docks.get j).visit ++
       maybeBytes (fun q => fourBytes q.start) (bk.docks.get j).qualify ++
       maybeBytes (fun q => twoBytes q.qual) (bk.docks.get j).qualify ++
       maybeBytes (fun q => twoBytes q.gap) (bk.docks.get j).qualify ++
       maybeBytes twoBytes (bk.docks.get j).pairing ++ maybeBytes twoBytes (bk.docks.get j).limit ++
       maybeBytes twoBytes (bk.docks.get j).lockout ++
       twoBytes (bk.docks.get j).holders.length ++ ((bk.docks.get j).holders.map twoBytes).flatten ++
       twoBytes (bk.docks.get j).atDock.length ++ ((bk.docks.get j).atDock.map fun k => oneByte k.val).flatten ++
       twoBytes (bk.docks.get j).deliveries.length ++
       ((bk.docks.get j).deliveries.map fun d => twoBytes d.val).flatten ++
       oneByte (bk.docks.get j).lockouts).flatten) ∧
  (∀ (bk : Books) (i : Fin 8) (n : Nat) (is : List (Fin 8)) (line : ConsignLine → List Byte),
     is.map (fun j => j.val) = List.range' i.val n →
     (∀ l, line l = (match l.item with
       | .bag m src a => [0] ++ fourBytes m ++ oneByte src.code ++ listBytes a
       | .deposit d => [1] ++ fourBytes (bk.itemNumber (.deposit d)) ++ twoBytes d.val) ++ flagByte l.scanned) →
     readDock (.consignment (i, n)) bk = (is.map fun k => oneByte (bk.consigns.get k).state.code ++
       maybeBytes (fun d => oneByte d.val) (bk.consigns.get k).dock ++ twoBytes (bk.consigns.get k).items.length ++
       ((bk.consigns.get k).items.map line).flatten ++ listBytes (bk.pos.loaded.get k)).flatten) ∧
  -- READ_FAULTS
  ∀ r : Recorder, r.bytes = ((List.finRange 8).map fun i => maybeBytes (fun f => oneByte f.station.toNat ++
      oneByte (match f.segment with | .s g => g.val | .u => 4) ++ [f.kind] ++ oneByte f.reason.code ++
      fourBytes f.time ++ oneByte f.collapse) (r.records.get i)).flatten ++ flagByte r.overflow ++
    maybeBytes (fun i => oneByte i.val) r.first ++
    twoBytes ((List.finRange 8).filter fun i => (r.records.get i).isSome).length

/-- R193, R53, R76, R99, R122, R149, R153, R155, R156, R185: what SOFT_RESET clears and what it keeps, in every part of
the state, and its reply, ACCEPT with its tag, alone on the emptied uplink queue. That the reply follows the reset of
every owner, and that a frame in hand at U stays as one at a segment port does, are assumption 25; that a reset taken
while the reply of an ACTIVATE waits, its activation completed, drops that reply is assumption 41. -/
def Obligations.SoftResetKeepsTheAccount : Prop :=
  ∀ (s : State) (c : Command), s.AtHead c 0x1D → c.params = [] → ∃ t, exec .softReset s = .next t ∧
    t.pending = s.pending ∧ t.books.pos = s.books.pos ∧ t.books.closeOrder = s.books.closeOrder ∧ t.clock = s.clock ∧
    t.recorder = s.recorder ∧ t.links.movement = s.links.movement ∧ t.links.pointer = 0 ∧
    t.links.waits = [] ∧ t.links.uplink = [⟨.reply, replyFrame t.summary c none []⟩] ∧ t.mgmt = ⟨[], false, .fresh⟩ ∧
    (t.store = { s.store with activation := none }) ∧ (∀ a, t.admission.get a = .absent) ∧
    (∀ k, t.notices.get k = ⟨⟨false, false, false, false⟩, (s.notices.get k).enabled, false⟩) ∧
    (∀ p, t.links.segs.get p = { s.links.segs.get p with
      queue := [], waiting := false, granted := false
      bank := if s.store.activation = none then (s.links.segs.get p).bank else s.store.active }) ∧
    t.links.uport = { s.links.uport with
      bank := if s.store.activation = none then s.links.uport.bank else s.store.active } ∧
    (∀ l, t.books.lanes.get l = Lane.idle) ∧
    (∀ i, t.books.safes.get i = { s.books.safes.get i with reservation := none }) ∧
    (∀ i, t.books.transfers.get i = (s.books.transfers.get i).map fun e => if e.late = true then e else
      { e with timer := some ⟨s.activeTables.timing.carryTransfer * 60, s.activeTables.timing.carryTransfer * 60⟩ }) ∧
    (∀ k, t.books.consigns.get k =
      (if ∃ d, ((s.books.docks.get d).state = .arrived ∨ (s.books.docks.get d).state = .custody ∨
          (s.books.docks.get d).state = .exchange) ∧ k ∈ (s.books.docks.get d).atDock then
        { s.books.consigns.get k with
          state := .ready, items := (s.books.consigns.get k).items.map fun l => { l with scanned := false } }
      else s.books.consigns.get k)) ∧
    (∀ i, t.books.deposits.get i = (s.books.deposits.get i).map fun d =>
      if d.state = .counting then { d with state := .awaitingCount, holder := none, countingStaff := none }
      else if d.state = .carried ∧ d.overdue = false then
        { d with carry := some (s.activeTables.timing.carryTransfer * 60) }
      else d) ∧
    (∀ i, t.books.tills.get i = (if (s.books.tills.get i).state = .pickupDue then { s.books.tills.get i with
      timer := (s.books.tills.get i).timer.map fun k => { k with remaining := k.full } } else s.books.tills.get i)) ∧
    ∀ d, ((s.books.docks.get d).state = .idle ∨ (s.books.docks.get d).state = .locked →
        t.books.docks.get d = s.books.docks.get d) ∧
      ((s.books.docks.get d).state = .lockout → t.books.docks.get d = { s.books.docks.get d with
        lockout := some s.activeTables.timing.lockout }) ∧
      ((s.books.docks.get d).state ≠ .idle → (s.books.docks.get d).state ≠ .locked →
        (s.books.docks.get d).state ≠ .lockout →
        t.books.docks.get d =
          ⟨.idle, none, none, [], none, [], [], (s.books.docks.get d).lockouts, none, none⟩)
end

