-- ==== Sys2Proof/Laws/Basics.lean ====
section
/-! SUPPORT. Reading what was written, for four-fold groups and for tables. -/

namespace Sys2Proof

namespace Quad
variable {α β γ : Type}

@[simp] theorem get_set_same (q : Quad α) (i : Fin 4) (x : α) : (q.set i x).get i = x := by
  match i with | 0 => rfl | 1 => rfl | 2 => rfl | 3 => rfl

theorem get_set_other (q : Quad α) {i j : Fin 4} (x : α) (h : j ≠ i) : (q.set i x).get j = q.get j := by
  match i, j, h with
  | 0, 1, _ => rfl | 0, 2, _ => rfl | 0, 3, _ => rfl
  | 1, 0, _ => rfl | 1, 2, _ => rfl | 1, 3, _ => rfl
  | 2, 0, _ => rfl | 2, 1, _ => rfl | 2, 3, _ => rfl
  | 3, 0, _ => rfl | 3, 1, _ => rfl | 3, 2, _ => rfl
  | 0, 0, h => exact absurd rfl h
  | 1, 1, h => exact absurd rfl h
  | 2, 2, h => exact absurd rfl h
  | 3, 3, h => exact absurd rfl h

@[simp] theorem set_set (q : Quad α) (i : Fin 4) (x y : α) : (q.set i x).set i y = q.set i y := by
  match i with | 0 => rfl | 1 => rfl | 2 => rfl | 3 => rfl

@[simp] theorem set_get (q : Quad α) (i : Fin 4) : q.set i (q.get i) = q := by
  match i with | 0 => rfl | 1 => rfl | 2 => rfl | 3 => rfl

@[simp] theorem get_const (x : α) (i : Fin 4) : (Quad.const x).get i = x := by
  match i with | 0 => rfl | 1 => rfl | 2 => rfl | 3 => rfl

@[simp] theorem get_map (f : α → β) (q : Quad α) (i : Fin 4) : (q.map f).get i = f (q.get i) := by
  match i with | 0 => rfl | 1 => rfl | 2 => rfl | 3 => rfl

@[simp] theorem get_zip (f : α → β → γ) (p : Quad α) (q : Quad β) (i : Fin 4) :
    (p.zip f q).get i = f (p.get i) (q.get i) := by
  match i with | 0 => rfl | 1 => rfl | 2 => rfl | 3 => rfl

@[simp] theorem get_tabulate (f : Fin 4 → α) (i : Fin 4) : (tabulate f).get i = f i := by
  match i with | 0 => rfl | 1 => rfl | 2 => rfl | 3 => rfl

/-- Two groups that read alike in every place are equal. -/
theorem ext_get {p q : Quad α} (h : ∀ i, p.get i = q.get i) : p = q := by
  cases p; cases q
  have h0 := h 0; have h1 := h 1; have h2 := h 2; have h3 := h 3
  simp only [get] at h0 h1 h2 h3
  subst h0 h1 h2 h3; rfl

theorem any_iff (q : Quad α) (f : α → Bool) : q.any f = true ↔ ∃ i, f (q.get i) = true := by
  constructor
  · intro h
    simp only [any, Bool.or_eq_true] at h
    rcases h with ((h | h) | h) | h
    · exact ⟨0, h⟩
    · exact ⟨1, h⟩
    · exact ⟨2, h⟩
    · exact ⟨3, h⟩
  · rintro ⟨i, h⟩
    simp only [any, Bool.or_eq_true]
    match i, h with
    | 0, h => exact .inl (.inl (.inl h))
    | 1, h => exact .inl (.inl (.inr h))
    | 2, h => exact .inl (.inr h)
    | 3, h => exact .inr h

theorem any_false_iff (q : Quad α) (f : α → Bool) : q.any f = false ↔ ∀ i, f (q.get i) = false := by
  rw [← Bool.not_eq_true, any_iff]
  simp

end Quad

namespace Tab
variable {α β : Type} {n : Nat}

@[simp] theorem get_set_same (t : Tab α n) (i : Fin n) (x : α) : (t.set i x).get i = x := by
  simp [get, set]

theorem get_set_other (t : Tab α n) {i j : Fin n} (x : α) (h : j ≠ i) : (t.set i x).get j = t.get j := by
  have h' : i.val ≠ j.val := fun e => h (Fin.ext e.symm)
  simp [get, set, h']

theorem get_set (t : Tab α n) (i j : Fin n) (x : α) : (t.set i x).get j = if j = i then x else t.get j := by
  by_cases h : j = i
  · subst h; simp
  · simp [get_set_other t x h, h]

@[simp] theorem set_set (t : Tab α n) (i : Fin n) (x y : α) : (t.set i x).set i y = t.set i y := by
  simp [set]

@[simp] theorem set_get (t : Tab α n) (i : Fin n) : t.set i (t.get i) = t := by
  cases t; simp [set, get]

@[simp] theorem get_const (x : α) (i : Fin n) : (Tab.const n x).get i = x := by
  simp [get, Tab.const]

@[simp] theorem get_map (f : α → β) (t : Tab α n) (i : Fin n) : (t.map f).get i = f (t.get i) := by
  simp [get, map]

@[simp] theorem get_tabulate (f : Fin n → α) (i : Fin n) : (tabulate f).get i = f i := by
  simp [get, tabulate]

@[simp] theorem get_mapIx (f : Fin n → α → β) (t : Tab α n) (i : Fin n) : (t.mapIx f).get i = f i (t.get i) := by
  simp [mapIx]

/-- Two tables that read alike at every index are equal. -/
theorem ext_get {s t : Tab α n} (h : ∀ i, s.get i = t.get i) : s = t := by
  have hr : s.rows = t.rows := by
    apply List.ext_getElem
    · rw [s.len, t.len]
    · intro i hi _
      exact h ⟨i, by rw [← s.len]; exact hi⟩
  cases s; cases t
  simp only at hr
  subst hr; rfl

/-- The rows are what the indices read. -/
theorem rows_eq (t : Tab α n) : t.rows = (List.finRange n).map t.get := by
  apply List.ext_getElem
  · simp [t.len]
  · intro i _ _; simp [get]

/-- What firstIx answers passes. -/
theorem firstIx_some {t : Tab α n} {p : α → Bool} {i : Fin n} (h : t.firstIx p = some i) : p (t.get i) = true := by
  simpa using List.find?_some h

/-- firstIx answers the lowest index whose record passes. -/
theorem firstIx_eq_some {t : Tab α n} {p : α → Bool} {i : Fin n} (passes : p (t.get i) = true)
    (lowest : ∀ j, j < i → p (t.get j) = false) : t.firstIx p = some i := by
  unfold firstIx
  rw [List.find?_eq_some_iff_getElem]
  refine ⟨passes, i.val, by simp, by simp, ?_⟩
  intro j hj
  simpa using lowest ⟨j, by omega⟩ hj

/-- firstIx answers nothing where no record passes. -/
theorem firstIx_eq_none {t : Tab α n} {p : α → Bool} (fails : ∀ i, p (t.get i) = false) : t.firstIx p = none := by
  unfold firstIx
  rw [List.find?_eq_none]
  intro i _
  simp [fails i]

/-- Where firstIx answers nothing, no record passes. -/
theorem firstIx_none {t : Tab α n} {p : α → Bool} (h : t.firstIx p = none) (i : Fin n) : p (t.get i) = false := by
  have := List.find?_eq_none.mp h i (List.mem_finRange i)
  simpa using this

end Tab

end Sys2Proof
end

