-- ==== Sys2Proof/Laws/Books.lean ====
section
/-! SUPPORT. What the shared operations over the Deposit Register do: each said once. -/

namespace Sys2Proof.Machine
open Sys2Proof

/-- Changing the list of one used record writes that record alone. -/
theorem Books.changeDeposits_one {bk : Books} {i : Fin 512} {d : Deposit} (h : bk.deposits.get i = some d)
    (f : Deposit → Deposit) : bk.changeDeposits [i] f = bk.setDeposit i (f d) := by
  have e : (bk.deposits.mapIx fun j x => if [i].contains j then x.map f else x)
      = bk.deposits.set i (some (f d)) := by
    apply Tab.ext_get
    intro j
    rw [Tab.get_mapIx, Tab.get_set]
    by_cases e : j = i
    · simp [e, h]
    · simp [e]
  simp only [Books.changeDeposits, Books.setDeposit, e]

/-- One record that joins the close order joins it at the end (R49). -/
theorem Books.joinCloseOrder_one (bk : Books) (i : Fin 512) :
    bk.joinCloseOrder [i] = { bk with closeOrder := bk.closeOrder ++ [i] } := by
  have e : ((List.finRange 512).filter fun j => [i].contains j) = [i] := by
    have p : (fun j => [i].contains j) = fun j => j == i := by funext j; simp [Bool.beq_eq_decide_eq]
    rw [p, List.filter_beq, List.Nodup.count (List.nodup_finRange 512), if_pos (List.mem_finRange i)]
    rfl
  simp only [Books.joinCloseOrder, e]

/-- A creation request that is accepted touches the positions, the deposits and the close order alone (R41). -/
theorem Books.create_frame {bk bk' : Books} {T : Tables} {tod : Nat} {c : Creation} {m : Move} {i : Fin 512}
    (h : bk.create T tod c m = .ok (bk', i)) :
    bk' = { bk with pos := bk'.pos, deposits := bk'.deposits, closeOrder := bk'.closeOrder } := by
  unfold Books.create at h
  split at h
  · cases h
  · split at h
    · cases h
    · split at h
      · cases h
      · cases h
        rfl

/-- A creation request with a fresh number and a free record is accepted where its movement is (R40, R41). -/
theorem Books.create_ok {bk : Books} {T : Tables} {tod : Nat} {c : Creation} {m : Move} {i : Fin 512} {q : Positions}
    (fresh : bk.numberInUse c.number = false) (free : bk.allocate = some i) (moves : bk.pos.present m = .ok q) :
    bk.create T tod c m = .ok ({ bk with
      pos := q
      deposits := bk.deposits.set i (some (c.record T tod))
      closeOrder := bk.closeOrder.erase i }, i) := by
  simp [Books.create, fresh, free, moves]

/-- A creation request whose movement is refused is refused with its reason (R40). -/
theorem Books.create_refused {bk : Books} {T : Tables} {tod : Nat} {c : Creation} {m : Move} {i : Fin 512} {r : Reason}
    (fresh : bk.numberInUse c.number = false) (free : bk.allocate = some i) (refuses : bk.pos.present m = .error r) :
    bk.create T tod c m = .error r := by
  simp [Books.create, fresh, free, refuses]

/-- A register with no record in use gives its first (R41). -/
theorem Books.allocate_empty {bk : Books} (none_used : ∀ i, bk.deposits.get i = none) : bk.allocate = some 0 := by
  have lowest : bk.deposits.firstIx (fun d => d.isNone) = some 0 :=
    Tab.firstIx_eq_some (by simp [none_used]) (fun j h => absurd h (Fin.not_lt_zero j))
  unfold Books.allocate
  rw [lowest]

/-- The live record of a number is the first one that is live and carries it. -/
theorem Books.findLive_first {bk : Books} {n : Nat} {i : Fin 512} {d : Deposit} (used : bk.deposits.get i = some d)
    (live : d.state ≠ .closed) (carries : d.number = n)
    (first : ∀ j e, j < i → bk.deposits.get j = some e → e.state = .closed ∨ e.number ≠ n) :
    bk.findLive n = some i := by
  refine Tab.firstIx_eq_some (by simp [used, Deposit.live, live, carries]) fun j hj => ?_
  cases e : bk.deposits.get j with
  | none => rfl
  | some d => rcases first j d hj e with c | c <;> simp [Deposit.live, c]

/-- No live record carries the number. -/
theorem Books.findLive_none {bk : Books} {n : Nat}
    (others : ∀ i d, bk.deposits.get i = some d → d.state = .closed ∨ d.number ≠ n) : bk.findLive n = none := by
  refine Tab.firstIx_eq_none fun j => ?_
  cases e : bk.deposits.get j with
  | none => rfl
  | some d => rcases others j d e with c | c <;> simp [Deposit.live, c]

/-- A register with one record in use: the live record that carries a number. -/
theorem Books.findLive_only {bk : Books} {i : Fin 512} {d : Deposit}
    (only : bk.deposits = (Tab.const 512 none).set i (some d)) (n : Nat) :
    bk.findLive n = if d.live && d.number == n then some i else none := by
  unfold Books.findLive
  rw [only]
  by_cases h : (d.live && d.number == n) = true
  · rw [if_pos h]
    apply Tab.firstIx_eq_some
    · simp [h]
    · intro j hj
      rw [Tab.get_set_other _ _ (Fin.ne_of_lt hj)]
      simp
  · rw [if_neg h]
    apply Tab.firstIx_eq_none
    intro j
    rw [Tab.get_set]
    by_cases e : j = i
    · simpa [e] using h
    · simp [e]

end Sys2Proof.Machine
end

