-- ==== Sys2Proof/Laws/State.lean ====
section
/-! SUPPORT. What each named update leaves as it is and what it sets: one lemma per field, each true by unfolding. -/

namespace Sys2Proof.Machine
open Sys2Proof

/-! ## The parts of the machine -/

@[simp] theorem State.setSeg_store (s : State) (p : Fin 4) (f : SegPort → SegPort) :
    (s.setSeg p f).store = s.store := rfl
@[simp] theorem State.setSeg_books (s : State) (p : Fin 4) (f : SegPort → SegPort) :
    (s.setSeg p f).books = s.books := rfl
@[simp] theorem State.setSeg_admission (s : State) (p : Fin 4) (f : SegPort → SegPort) :
    (s.setSeg p f).admission = s.admission := rfl
@[simp] theorem State.setSeg_recorder (s : State) (p : Fin 4) (f : SegPort → SegPort) :
    (s.setSeg p f).recorder = s.recorder := rfl
@[simp] theorem State.setSeg_mgmt (s : State) (p : Fin 4) (f : SegPort → SegPort) : (s.setSeg p f).mgmt = s.mgmt := rfl
@[simp] theorem State.setSeg_notices (s : State) (p : Fin 4) (f : SegPort → SegPort) :
    (s.setSeg p f).notices = s.notices := rfl
@[simp] theorem State.setSeg_clock (s : State) (p : Fin 4) (f : SegPort → SegPort) :
    (s.setSeg p f).clock = s.clock := rfl
@[simp] theorem State.setSeg_pending (s : State) (p : Fin 4) (f : SegPort → SegPort) :
    (s.setSeg p f).pending = s.pending := rfl
@[simp] theorem State.setSeg_links (s : State) (p : Fin 4) (f : SegPort → SegPort) :
    (s.setSeg p f).links = { s.links with segs := s.links.segs.set p (f (s.links.segs.get p)) } := rfl
@[simp] theorem State.setUport_store (s : State) (f : UpPort → UpPort) : (s.setUport f).store = s.store := rfl
@[simp] theorem State.setUport_books (s : State) (f : UpPort → UpPort) : (s.setUport f).books = s.books := rfl
@[simp] theorem State.setUport_admission (s : State) (f : UpPort → UpPort) :
    (s.setUport f).admission = s.admission := rfl
@[simp] theorem State.setUport_recorder (s : State) (f : UpPort → UpPort) : (s.setUport f).recorder = s.recorder := rfl
@[simp] theorem State.setUport_mgmt (s : State) (f : UpPort → UpPort) : (s.setUport f).mgmt = s.mgmt := rfl
@[simp] theorem State.setUport_notices (s : State) (f : UpPort → UpPort) : (s.setUport f).notices = s.notices := rfl
@[simp] theorem State.setUport_clock (s : State) (f : UpPort → UpPort) : (s.setUport f).clock = s.clock := rfl
@[simp] theorem State.setUport_pending (s : State) (f : UpPort → UpPort) : (s.setUport f).pending = s.pending := rfl
@[simp] theorem State.setUport_links (s : State) (f : UpPort → UpPort) :
    (s.setUport f).links = { s.links with uport := f s.links.uport } := rfl
@[simp] theorem State.setNotice_store (s : State) (c : Fin 8) (f : NoticeClass → NoticeClass) :
    (s.setNotice c f).store = s.store := rfl
@[simp] theorem State.setNotice_books (s : State) (c : Fin 8) (f : NoticeClass → NoticeClass) :
    (s.setNotice c f).books = s.books := rfl
@[simp] theorem State.setNotice_links (s : State) (c : Fin 8) (f : NoticeClass → NoticeClass) :
    (s.setNotice c f).links = s.links := rfl
@[simp] theorem State.setNotice_admission (s : State) (c : Fin 8) (f : NoticeClass → NoticeClass) :
    (s.setNotice c f).admission = s.admission := rfl
@[simp] theorem State.setNotice_recorder (s : State) (c : Fin 8) (f : NoticeClass → NoticeClass) :
    (s.setNotice c f).recorder = s.recorder := rfl
@[simp] theorem State.setNotice_mgmt (s : State) (c : Fin 8) (f : NoticeClass → NoticeClass) :
    (s.setNotice c f).mgmt = s.mgmt := rfl
@[simp] theorem State.setNotice_clock (s : State) (c : Fin 8) (f : NoticeClass → NoticeClass) :
    (s.setNotice c f).clock = s.clock := rfl
@[simp] theorem State.setNotice_pending (s : State) (c : Fin 8) (f : NoticeClass → NoticeClass) :
    (s.setNotice c f).pending = s.pending := rfl
@[simp] theorem State.setNotice_notices (s : State) (c : Fin 8) (f : NoticeClass → NoticeClass) :
    (s.setNotice c f).notices = s.notices.set c (f (s.notices.get c)) := rfl
@[simp] theorem State.pushUplink_store (s : State) (c : UpClass) (f : TxFrame) :
    (s.pushUplink c f).store = s.store := rfl
@[simp] theorem State.pushUplink_books (s : State) (c : UpClass) (f : TxFrame) :
    (s.pushUplink c f).books = s.books := rfl
@[simp] theorem State.pushUplink_admission (s : State) (c : UpClass) (f : TxFrame) :
    (s.pushUplink c f).admission = s.admission := rfl
@[simp] theorem State.pushUplink_recorder (s : State) (c : UpClass) (f : TxFrame) :
    (s.pushUplink c f).recorder = s.recorder := rfl
@[simp] theorem State.pushUplink_mgmt (s : State) (c : UpClass) (f : TxFrame) : (s.pushUplink c f).mgmt = s.mgmt := rfl
@[simp] theorem State.pushUplink_notices (s : State) (c : UpClass) (f : TxFrame) :
    (s.pushUplink c f).notices = s.notices := rfl
@[simp] theorem State.pushUplink_clock (s : State) (c : UpClass) (f : TxFrame) :
    (s.pushUplink c f).clock = s.clock := rfl
@[simp] theorem State.pushUplink_pending (s : State) (c : UpClass) (f : TxFrame) :
    (s.pushUplink c f).pending = s.pending := rfl
@[simp] theorem State.pushUplink_links (s : State) (c : UpClass) (f : TxFrame) :
    (s.pushUplink c f).links = { s.links with uplink := s.links.uplink ++ [⟨c, f⟩] } := rfl
@[simp] theorem State.addWait_store (s : State) (w : WaitItem) : (s.addWait w).store = s.store := rfl
@[simp] theorem State.addWait_books (s : State) (w : WaitItem) : (s.addWait w).books = s.books := rfl
@[simp] theorem State.addWait_admission (s : State) (w : WaitItem) : (s.addWait w).admission = s.admission := rfl
@[simp] theorem State.addWait_recorder (s : State) (w : WaitItem) : (s.addWait w).recorder = s.recorder := rfl
@[simp] theorem State.addWait_mgmt (s : State) (w : WaitItem) : (s.addWait w).mgmt = s.mgmt := rfl
@[simp] theorem State.addWait_notices (s : State) (w : WaitItem) : (s.addWait w).notices = s.notices := rfl
@[simp] theorem State.addWait_clock (s : State) (w : WaitItem) : (s.addWait w).clock = s.clock := rfl
@[simp] theorem State.addWait_pending (s : State) (w : WaitItem) : (s.addWait w).pending = s.pending := rfl
@[simp] theorem State.addWait_links (s : State) (w : WaitItem) :
    (s.addWait w).links = { s.links with waits := s.links.waits ++ [w] } := rfl
@[simp] theorem State.withdraw_store (s : State) (c : Fin 8) : (s.withdraw c).store = s.store := rfl
@[simp] theorem State.withdraw_books (s : State) (c : Fin 8) : (s.withdraw c).books = s.books := rfl
@[simp] theorem State.withdraw_admission (s : State) (c : Fin 8) : (s.withdraw c).admission = s.admission := rfl
@[simp] theorem State.withdraw_recorder (s : State) (c : Fin 8) : (s.withdraw c).recorder = s.recorder := rfl
@[simp] theorem State.withdraw_mgmt (s : State) (c : Fin 8) : (s.withdraw c).mgmt = s.mgmt := rfl
@[simp] theorem State.withdraw_notices (s : State) (c : Fin 8) : (s.withdraw c).notices = s.notices := rfl
@[simp] theorem State.withdraw_clock (s : State) (c : Fin 8) : (s.withdraw c).clock = s.clock := rfl
@[simp] theorem State.withdraw_pending (s : State) (c : Fin 8) : (s.withdraw c).pending = s.pending := rfl
@[simp] theorem State.setMgmt_store (s : State) (m : Mgmt) : (s.setMgmt m).store = s.store := rfl
@[simp] theorem State.setMgmt_books (s : State) (m : Mgmt) : (s.setMgmt m).books = s.books := rfl
@[simp] theorem State.setMgmt_links (s : State) (m : Mgmt) : (s.setMgmt m).links = s.links := rfl
@[simp] theorem State.setMgmt_admission (s : State) (m : Mgmt) : (s.setMgmt m).admission = s.admission := rfl
@[simp] theorem State.setMgmt_recorder (s : State) (m : Mgmt) : (s.setMgmt m).recorder = s.recorder := rfl
@[simp] theorem State.setMgmt_notices (s : State) (m : Mgmt) : (s.setMgmt m).notices = s.notices := rfl
@[simp] theorem State.setMgmt_clock (s : State) (m : Mgmt) : (s.setMgmt m).clock = s.clock := rfl
@[simp] theorem State.setMgmt_pending (s : State) (m : Mgmt) : (s.setMgmt m).pending = s.pending := rfl
@[simp] theorem State.setMgmt_mgmt (s : State) (m : Mgmt) : (s.setMgmt m).mgmt = m := rfl
@[simp] theorem State.popHead_store (s : State) : (s.popHead).store = s.store := rfl
@[simp] theorem State.popHead_books (s : State) : (s.popHead).books = s.books := rfl
@[simp] theorem State.popHead_links (s : State) : (s.popHead).links = s.links := rfl
@[simp] theorem State.popHead_admission (s : State) : (s.popHead).admission = s.admission := rfl
@[simp] theorem State.popHead_recorder (s : State) : (s.popHead).recorder = s.recorder := rfl
@[simp] theorem State.popHead_notices (s : State) : (s.popHead).notices = s.notices := rfl
@[simp] theorem State.popHead_clock (s : State) : (s.popHead).clock = s.clock := rfl
@[simp] theorem State.popHead_pending (s : State) : (s.popHead).pending = s.pending := rfl
@[simp] theorem State.popHead_mgmt (s : State) :
    s.popHead.mgmt = { s.mgmt with queue := s.mgmt.queue.drop 1, phase := .fresh } := rfl
@[simp] theorem State.setAdmission_store (s : State) (a : Byte) (e : Admission) :
    (s.setAdmission a e).store = s.store := rfl
@[simp] theorem State.setAdmission_books (s : State) (a : Byte) (e : Admission) :
    (s.setAdmission a e).books = s.books := rfl
@[simp] theorem State.setAdmission_links (s : State) (a : Byte) (e : Admission) :
    (s.setAdmission a e).links = s.links := rfl
@[simp] theorem State.setAdmission_recorder (s : State) (a : Byte) (e : Admission) :
    (s.setAdmission a e).recorder = s.recorder := rfl
@[simp] theorem State.setAdmission_mgmt (s : State) (a : Byte) (e : Admission) :
    (s.setAdmission a e).mgmt = s.mgmt := rfl
@[simp] theorem State.setAdmission_notices (s : State) (a : Byte) (e : Admission) :
    (s.setAdmission a e).notices = s.notices := rfl
@[simp] theorem State.setAdmission_clock (s : State) (a : Byte) (e : Admission) :
    (s.setAdmission a e).clock = s.clock := rfl
@[simp] theorem State.setAdmission_pending (s : State) (a : Byte) (e : Admission) :
    (s.setAdmission a e).pending = s.pending := rfl
@[simp] theorem State.setAdmission_admission (s : State) (a : Byte) (e : Admission) :
    (s.setAdmission a e).admission = s.admission.set a.toFin e := rfl
@[simp] theorem State.finish_store (s : State) (p : Fin 4) : (s.finish p).store = s.store := rfl
@[simp] theorem State.finish_books (s : State) (p : Fin 4) : (s.finish p).books = s.books := rfl
@[simp] theorem State.finish_admission (s : State) (p : Fin 4) : (s.finish p).admission = s.admission := rfl
@[simp] theorem State.finish_recorder (s : State) (p : Fin 4) : (s.finish p).recorder = s.recorder := rfl
@[simp] theorem State.finish_mgmt (s : State) (p : Fin 4) : (s.finish p).mgmt = s.mgmt := rfl
@[simp] theorem State.finish_notices (s : State) (p : Fin 4) : (s.finish p).notices = s.notices := rfl
@[simp] theorem State.finish_clock (s : State) (p : Fin 4) : (s.finish p).clock = s.clock := rfl
@[simp] theorem State.finish_pending (s : State) (p : Fin 4) : (s.finish p).pending = s.pending := rfl
@[simp] theorem State.finish_links (s : State) (p : Fin 4) :
    (s.finish p).links = { s.links with segs := s.links.segs.set p { s.links.segs.get p with hand := none } } := rfl
@[simp] theorem State.finishUp_store (s : State) : (s.finishUp).store = s.store := rfl
@[simp] theorem State.finishUp_books (s : State) : (s.finishUp).books = s.books := rfl
@[simp] theorem State.finishUp_admission (s : State) : (s.finishUp).admission = s.admission := rfl
@[simp] theorem State.finishUp_recorder (s : State) : (s.finishUp).recorder = s.recorder := rfl
@[simp] theorem State.finishUp_mgmt (s : State) : (s.finishUp).mgmt = s.mgmt := rfl
@[simp] theorem State.finishUp_notices (s : State) : (s.finishUp).notices = s.notices := rfl
@[simp] theorem State.finishUp_clock (s : State) : (s.finishUp).clock = s.clock := rfl
@[simp] theorem State.finishUp_pending (s : State) : (s.finishUp).pending = s.pending := rfl
@[simp] theorem State.finishUp_links (s : State) :
    s.finishUp.links = { s.links with uport := { s.links.uport with hand := none } } := rfl
@[simp] theorem State.stationsAbsent_store (s : State) (i : Fin 4) : (s.stationsAbsent i).store = s.store := rfl
@[simp] theorem State.stationsAbsent_books (s : State) (i : Fin 4) : (s.stationsAbsent i).books = s.books := rfl
@[simp] theorem State.stationsAbsent_links (s : State) (i : Fin 4) : (s.stationsAbsent i).links = s.links := rfl
@[simp] theorem State.stationsAbsent_recorder (s : State) (i : Fin 4) :
    (s.stationsAbsent i).recorder = s.recorder := rfl
@[simp] theorem State.stationsAbsent_mgmt (s : State) (i : Fin 4) : (s.stationsAbsent i).mgmt = s.mgmt := rfl
@[simp] theorem State.stationsAbsent_notices (s : State) (i : Fin 4) : (s.stationsAbsent i).notices = s.notices := rfl
@[simp] theorem State.stationsAbsent_clock (s : State) (i : Fin 4) : (s.stationsAbsent i).clock = s.clock := rfl
@[simp] theorem State.stationsAbsent_pending (s : State) (i : Fin 4) : (s.stationsAbsent i).pending = s.pending := rfl

/-! ## The records of chapters 2 to 7 -/

@[simp] theorem Books.setDeposit_pos (bk : Books) (i : Fin 512) (d : Deposit) : (bk.setDeposit i d).pos = bk.pos := rfl
@[simp] theorem Books.setDeposit_deposits (bk : Books) (i : Fin 512) (d : Deposit) :
    (bk.setDeposit i d).deposits = bk.deposits.set i (some d) := rfl
@[simp] theorem Books.setDeposit_closeOrder (bk : Books) (i : Fin 512) (d : Deposit) :
    (bk.setDeposit i d).closeOrder = bk.closeOrder := rfl
@[simp] theorem Books.setDeposit_tills (bk : Books) (i : Fin 512) (d : Deposit) :
    (bk.setDeposit i d).tills = bk.tills := rfl
@[simp] theorem Books.setDeposit_safes (bk : Books) (i : Fin 512) (d : Deposit) :
    (bk.setDeposit i d).safes = bk.safes := rfl
@[simp] theorem Books.setDeposit_transfers (bk : Books) (i : Fin 512) (d : Deposit) :
    (bk.setDeposit i d).transfers = bk.transfers := rfl
@[simp] theorem Books.setDeposit_lanes (bk : Books) (i : Fin 512) (d : Deposit) :
    (bk.setDeposit i d).lanes = bk.lanes := rfl
@[simp] theorem Books.setDeposit_consigns (bk : Books) (i : Fin 512) (d : Deposit) :
    (bk.setDeposit i d).consigns = bk.consigns := rfl
@[simp] theorem Books.setDeposit_docks (bk : Books) (i : Fin 512) (d : Deposit) :
    (bk.setDeposit i d).docks = bk.docks := rfl
@[simp] theorem Books.changeDeposits_pos (bk : Books) (is : List (Fin 512)) (f : Deposit → Deposit) :
    (bk.changeDeposits is f).pos = bk.pos := by
  simp only [Books.changeDeposits]
@[simp] theorem Books.changeDeposits_deposits (bk : Books) (is : List (Fin 512)) (f : Deposit → Deposit) :
    (bk.changeDeposits is f).deposits = bk.deposits.mapIx fun i d => if is.contains i then d.map f else d := by
  simp only [Books.changeDeposits]
@[simp] theorem Books.changeDeposits_closeOrder (bk : Books) (is : List (Fin 512)) (f : Deposit → Deposit) :
    (bk.changeDeposits is f).closeOrder = bk.closeOrder := by
  simp only [Books.changeDeposits]
@[simp] theorem Books.changeDeposits_tills (bk : Books) (is : List (Fin 512)) (f : Deposit → Deposit) :
    (bk.changeDeposits is f).tills = bk.tills := by
  simp only [Books.changeDeposits]
@[simp] theorem Books.changeDeposits_safes (bk : Books) (is : List (Fin 512)) (f : Deposit → Deposit) :
    (bk.changeDeposits is f).safes = bk.safes := by
  simp only [Books.changeDeposits]
@[simp] theorem Books.changeDeposits_transfers (bk : Books) (is : List (Fin 512)) (f : Deposit → Deposit) :
    (bk.changeDeposits is f).transfers = bk.transfers := by
  simp only [Books.changeDeposits]
@[simp] theorem Books.changeDeposits_lanes (bk : Books) (is : List (Fin 512)) (f : Deposit → Deposit) :
    (bk.changeDeposits is f).lanes = bk.lanes := by
  simp only [Books.changeDeposits]
@[simp] theorem Books.changeDeposits_consigns (bk : Books) (is : List (Fin 512)) (f : Deposit → Deposit) :
    (bk.changeDeposits is f).consigns = bk.consigns := by
  simp only [Books.changeDeposits]
@[simp] theorem Books.changeDeposits_docks (bk : Books) (is : List (Fin 512)) (f : Deposit → Deposit) :
    (bk.changeDeposits is f).docks = bk.docks := by
  simp only [Books.changeDeposits]
@[simp] theorem Books.joinCloseOrder_pos (bk : Books) (is : List (Fin 512)) : (bk.joinCloseOrder is).pos = bk.pos := rfl
@[simp] theorem Books.joinCloseOrder_deposits (bk : Books) (is : List (Fin 512)) :
    (bk.joinCloseOrder is).deposits = bk.deposits := rfl
@[simp] theorem Books.joinCloseOrder_closeOrder (bk : Books) (is : List (Fin 512)) :
    (bk.joinCloseOrder is).closeOrder = bk.closeOrder ++ (List.finRange 512).filter fun i => is.contains i := rfl
@[simp] theorem Books.joinCloseOrder_tills (bk : Books) (is : List (Fin 512)) :
    (bk.joinCloseOrder is).tills = bk.tills := rfl
@[simp] theorem Books.joinCloseOrder_safes (bk : Books) (is : List (Fin 512)) :
    (bk.joinCloseOrder is).safes = bk.safes := rfl
@[simp] theorem Books.joinCloseOrder_transfers (bk : Books) (is : List (Fin 512)) :
    (bk.joinCloseOrder is).transfers = bk.transfers := rfl
@[simp] theorem Books.joinCloseOrder_lanes (bk : Books) (is : List (Fin 512)) :
    (bk.joinCloseOrder is).lanes = bk.lanes := rfl
@[simp] theorem Books.joinCloseOrder_consigns (bk : Books) (is : List (Fin 512)) :
    (bk.joinCloseOrder is).consigns = bk.consigns := rfl
@[simp] theorem Books.joinCloseOrder_docks (bk : Books) (is : List (Fin 512)) :
    (bk.joinCloseOrder is).docks = bk.docks := rfl
@[simp] theorem Books.setTill_pos (bk : Books) (t : Fin 160) (r : Till) : (bk.setTill t r).pos = bk.pos := rfl
@[simp] theorem Books.setTill_deposits (bk : Books) (t : Fin 160) (r : Till) :
    (bk.setTill t r).deposits = bk.deposits := rfl
@[simp] theorem Books.setTill_closeOrder (bk : Books) (t : Fin 160) (r : Till) :
    (bk.setTill t r).closeOrder = bk.closeOrder := rfl
@[simp] theorem Books.setTill_tills (bk : Books) (t : Fin 160) (r : Till) :
    (bk.setTill t r).tills = bk.tills.set t r := rfl
@[simp] theorem Books.setTill_safes (bk : Books) (t : Fin 160) (r : Till) : (bk.setTill t r).safes = bk.safes := rfl
@[simp] theorem Books.setTill_transfers (bk : Books) (t : Fin 160) (r : Till) :
    (bk.setTill t r).transfers = bk.transfers := rfl
@[simp] theorem Books.setTill_lanes (bk : Books) (t : Fin 160) (r : Till) : (bk.setTill t r).lanes = bk.lanes := rfl
@[simp] theorem Books.setTill_consigns (bk : Books) (t : Fin 160) (r : Till) :
    (bk.setTill t r).consigns = bk.consigns := rfl
@[simp] theorem Books.setTill_docks (bk : Books) (t : Fin 160) (r : Till) : (bk.setTill t r).docks = bk.docks := rfl
@[simp] theorem Books.setSafe_pos (bk : Books) (i : Fin 16) (f : Safe) : (bk.setSafe i f).pos = bk.pos := rfl
@[simp] theorem Books.setSafe_deposits (bk : Books) (i : Fin 16) (f : Safe) :
    (bk.setSafe i f).deposits = bk.deposits := rfl
@[simp] theorem Books.setSafe_closeOrder (bk : Books) (i : Fin 16) (f : Safe) :
    (bk.setSafe i f).closeOrder = bk.closeOrder := rfl
@[simp] theorem Books.setSafe_tills (bk : Books) (i : Fin 16) (f : Safe) : (bk.setSafe i f).tills = bk.tills := rfl
@[simp] theorem Books.setSafe_safes (bk : Books) (i : Fin 16) (f : Safe) :
    (bk.setSafe i f).safes = bk.safes.set i f := rfl
@[simp] theorem Books.setSafe_transfers (bk : Books) (i : Fin 16) (f : Safe) :
    (bk.setSafe i f).transfers = bk.transfers := rfl
@[simp] theorem Books.setSafe_lanes (bk : Books) (i : Fin 16) (f : Safe) : (bk.setSafe i f).lanes = bk.lanes := rfl
@[simp] theorem Books.setSafe_consigns (bk : Books) (i : Fin 16) (f : Safe) :
    (bk.setSafe i f).consigns = bk.consigns := rfl
@[simp] theorem Books.setSafe_docks (bk : Books) (i : Fin 16) (f : Safe) : (bk.setSafe i f).docks = bk.docks := rfl
@[simp] theorem Books.setLane_pos (bk : Books) (i : Fin 6) (l : Lane) : (bk.setLane i l).pos = bk.pos := rfl
@[simp] theorem Books.setLane_deposits (bk : Books) (i : Fin 6) (l : Lane) :
    (bk.setLane i l).deposits = bk.deposits := rfl
@[simp] theorem Books.setLane_closeOrder (bk : Books) (i : Fin 6) (l : Lane) :
    (bk.setLane i l).closeOrder = bk.closeOrder := rfl
@[simp] theorem Books.setLane_tills (bk : Books) (i : Fin 6) (l : Lane) : (bk.setLane i l).tills = bk.tills := rfl
@[simp] theorem Books.setLane_safes (bk : Books) (i : Fin 6) (l : Lane) : (bk.setLane i l).safes = bk.safes := rfl
@[simp] theorem Books.setLane_transfers (bk : Books) (i : Fin 6) (l : Lane) :
    (bk.setLane i l).transfers = bk.transfers := rfl
@[simp] theorem Books.setLane_lanes (bk : Books) (i : Fin 6) (l : Lane) :
    (bk.setLane i l).lanes = bk.lanes.set i l := rfl
@[simp] theorem Books.setLane_consigns (bk : Books) (i : Fin 6) (l : Lane) :
    (bk.setLane i l).consigns = bk.consigns := rfl
@[simp] theorem Books.setLane_docks (bk : Books) (i : Fin 6) (l : Lane) : (bk.setLane i l).docks = bk.docks := rfl
@[simp] theorem Books.setConsign_pos (bk : Books) (k : Fin 8) (c : Consignment) :
    (bk.setConsign k c).pos = bk.pos := rfl
@[simp] theorem Books.setConsign_deposits (bk : Books) (k : Fin 8) (c : Consignment) :
    (bk.setConsign k c).deposits = bk.deposits := rfl
@[simp] theorem Books.setConsign_closeOrder (bk : Books) (k : Fin 8) (c : Consignment) :
    (bk.setConsign k c).closeOrder = bk.closeOrder := rfl
@[simp] theorem Books.setConsign_tills (bk : Books) (k : Fin 8) (c : Consignment) :
    (bk.setConsign k c).tills = bk.tills := rfl
@[simp] theorem Books.setConsign_safes (bk : Books) (k : Fin 8) (c : Consignment) :
    (bk.setConsign k c).safes = bk.safes := rfl
@[simp] theorem Books.setConsign_transfers (bk : Books) (k : Fin 8) (c : Consignment) :
    (bk.setConsign k c).transfers = bk.transfers := rfl
@[simp] theorem Books.setConsign_lanes (bk : Books) (k : Fin 8) (c : Consignment) :
    (bk.setConsign k c).lanes = bk.lanes := rfl
@[simp] theorem Books.setConsign_consigns (bk : Books) (k : Fin 8) (c : Consignment) :
    (bk.setConsign k c).consigns = bk.consigns.set k c := rfl
@[simp] theorem Books.setConsign_docks (bk : Books) (k : Fin 8) (c : Consignment) :
    (bk.setConsign k c).docks = bk.docks := rfl
@[simp] theorem Books.setDock_pos (bk : Books) (d : Fin 2) (h : Handover) : (bk.setDock d h).pos = bk.pos := rfl
@[simp] theorem Books.setDock_deposits (bk : Books) (d : Fin 2) (h : Handover) :
    (bk.setDock d h).deposits = bk.deposits := rfl
@[simp] theorem Books.setDock_closeOrder (bk : Books) (d : Fin 2) (h : Handover) :
    (bk.setDock d h).closeOrder = bk.closeOrder := rfl
@[simp] theorem Books.setDock_tills (bk : Books) (d : Fin 2) (h : Handover) : (bk.setDock d h).tills = bk.tills := rfl
@[simp] theorem Books.setDock_safes (bk : Books) (d : Fin 2) (h : Handover) : (bk.setDock d h).safes = bk.safes := rfl
@[simp] theorem Books.setDock_transfers (bk : Books) (d : Fin 2) (h : Handover) :
    (bk.setDock d h).transfers = bk.transfers := rfl
@[simp] theorem Books.setDock_lanes (bk : Books) (d : Fin 2) (h : Handover) : (bk.setDock d h).lanes = bk.lanes := rfl
@[simp] theorem Books.setDock_consigns (bk : Books) (d : Fin 2) (h : Handover) :
    (bk.setDock d h).consigns = bk.consigns := rfl
@[simp] theorem Books.setDock_docks (bk : Books) (d : Fin 2) (h : Handover) :
    (bk.setDock d h).docks = bk.docks.set d h := rfl

end Sys2Proof.Machine
end

