-- ==== Sys2Proof/Laws/Ops.lean ====
section
/-! SUPPORT. What the shared operations over ports, replies, notices, faults, frames and queued commands do: each said
once, in the terms of Sys2Proof/Safety.lean. -/

namespace Sys2Proof.Machine
open Sys2Proof

/-! ## Segment queues, replies and notices touch their own part alone -/

@[simp] theorem State.pushSeg_links (s : State) (p : Fin 4) (f : TxFrame) :
    (s.pushSeg p f).links =
      { s.links with
        segs := s.links.segs.set p
          (if (s.links.segs.get p).up then
            { s.links.segs.get p with queue := (s.links.segs.get p).queue ++ [f] } else s.links.segs.get p) } := rfl

/-- What a change of the links, the notices, the recorder and the management queue alone leaves. -/
structure State.SameRecords (s t : State) : Prop where
  store : t.store = s.store
  books : t.books = s.books
  admission : t.admission = s.admission
  clock : t.clock = s.clock
  pending : t.pending = s.pending

theorem State.SameRecords.refl (s : State) : s.SameRecords s := ⟨rfl, rfl, rfl, rfl, rfl⟩

theorem State.SameRecords.trans {s t u : State} (h : s.SameRecords t) (k : t.SameRecords u) : s.SameRecords u :=
  ⟨k.store.trans h.store, k.books.trans h.books, k.admission.trans h.admission, k.clock.trans h.clock,
    k.pending.trans h.pending⟩

theorem State.pushSeg_same (s : State) (p : Fin 4) (f : TxFrame) : s.SameRecords (s.pushSeg p f) :=
  ⟨rfl, rfl, rfl, rfl, rfl⟩

theorem State.offerSeg_same (s : State) (p : Fin 4) (f : TxFrame) : s.SameRecords (s.offerSeg p f) := by
  unfold State.offerSeg
  split
  · exact s.pushSeg_same p f
  · exact .refl s

theorem State.placeReply_same (s : State) (r : Reply) : s.SameRecords (s.placeReply r) := ⟨rfl, rfl, rfl, rfl, rfl⟩

theorem State.placeNotice_same (s : State) (c : Fin 8) : s.SameRecords (s.placeNotice c) := ⟨rfl, rfl, rfl, rfl, rfl⟩

theorem State.offerNotice_same (s : State) (c : Fin 8) : s.SameRecords (s.offerNotice c) := by
  unfold State.offerNotice
  split
  · exact s.placeNotice_same c
  · exact ⟨rfl, rfl, rfl, rfl, rfl⟩

theorem State.setSource_same (s : State) (c : Source) : s.SameRecords (s.setSource c) := by
  unfold State.setSource
  dsimp only
  split
  · exact ⟨rfl, rfl, rfl, rfl, rfl⟩
  · split
    · exact .trans (t := s.setNotice c.cls fun n => { n with sources := n.sources.set c.place true })
        ⟨rfl, rfl, rfl, rfl, rfl⟩ (State.offerNotice_same _ _)
    · exact ⟨rfl, rfl, rfl, rfl, rfl⟩

theorem State.setSources_same (s : State) (cs : List Source) : s.SameRecords (s.setSources cs) := by
  unfold State.setSources
  induction cs generalizing s with
  | nil => exact .refl s
  | cons c cs ih => exact (s.setSource_same c).trans (ih _)

theorem State.complete_same (s : State) (c : Completes) : s.SameRecords (s.complete c) := by
  cases c with
  | nothing => exact .refl s
  | activate => exact .refl s
  | head => exact ⟨rfl, rfl, rfl, rfl, rfl⟩
  | fence notify =>
    cases notify
    · exact ⟨rfl, rfl, rfl, rfl, rfl⟩
    · exact State.SameRecords.trans (t := s.popHead) ⟨rfl, rfl, rfl, rfl, rfl⟩ (s.popHead.setSource_same .fenceDone)

theorem State.offerReply_same (s : State) (r : Reply) (c : Completes) : s.SameRecords (s.offerReply r c) := by
  unfold State.offerReply
  split
  · exact (s.placeReply_same r).trans (State.complete_same _ _)
  · dsimp only
    split <;> exact ⟨rfl, rfl, rfl, rfl, rfl⟩

theorem State.report_same (s : State) (a : Byte) (g : PortId) (k : Byte) (r : Reason) :
    s.SameRecords (s.report a g k r) := by
  unfold State.report
  dsimp only
  exact .trans (t := { s with recorder := (s.recorder.take a g k r s.clock.tod).1 }) ⟨rfl, rfl, rfl, rfl, rfl⟩
    (State.setSources_same _ _)

theorem State.answer_same (s : State) (x : Ctx) (r : Option Reason) (n : Nat) (bs : List Byte) :
    s.SameRecords (s.answer x r n bs) := s.pushSeg_same _ _

theorem State.forward_same (s : State) (x : Ctx) (a : Bool) (bs : List Byte) : s.SameRecords (s.forward x a bs) :=
  ⟨rfl, rfl, rfl, rfl, rfl⟩

/-- A segment queue has a free slot when fewer than 16 are held and reserved (R153). -/
theorem State.segSlotFree_iff (s : State) {p : Fin 4} :
    s.segSlotFree p = true ↔ (s.links.segs.get p).queue.length + s.segReserved p < 16 := by
  simp [State.segSlotFree]

/-! ## Frames -/

/-- An accepted frame is answered, forwarded and finished, then its PICKUP_CALL is offered (R25, R69, R159). -/
theorem settle_accept (x : Ctx) (a : Accepted State) :
    settle x (.accept a) = ((a.next.setSources a.sources).accepted x a.result).called x a.call := by
  have base : (((a.next.setSources a.sources).answer x none 0 a.result).forward x true a.result).finish x.port
      = (a.next.setSources a.sources).accepted x a.result := by
    generalize a.next.setSources a.sources = s
    simp only [State.answer, State.pushSeg, State.setSeg, State.forward, State.pushUplink, State.finish,
      State.accepted, Quad.get_set_same, Quad.set_set, SegPort.answered, answerPayload, acceptFrame, forwardFrame, stamp]
    rcases hg : s.links.segs.get x.port with ⟨up, _, _, _, _, _, _, _, _⟩
    cases up <;> simp [kindAnswer, oneByte, beBytes]
  unfold settle
  dsimp only
  rw [base]
  cases a.call with
  | none => rfl
  | some payload =>
    generalize (a.next.setSources a.sources).accepted x a.result = t
    simp only [State.offerSeg, State.called]
    by_cases h : (t.links.segs.get x.port).queue.length + t.segReserved x.port < 16
    · rw [if_pos h, if_pos (t.segSlotFree_iff.mpr h)]
      rfl
    · rw [if_neg h, if_neg (mt t.segSlotFree_iff.mp h)]

/-- A refused frame is answered and finished, then what the refusal brings follows (R164, R143). -/
theorem settle_refuse (x : Ctx) (r : Reason) (place : Nat) (result : List Byte) (after : After) (s : State) :
    settle x (.refuse r place result after s) =
      (match after with
        | .nothing => s.turnedAway x r place result
        | .report => (s.turnedAway x r place result).report x.src (.s x.port) x.kind r
        | .dockFault d => (s.turnedAway x r place result).raiseDockFault x.tab.timing d x.src x.port x.kind r) := by
  have base : (s.answer x (some r) place result).finish x.port = s.turnedAway x r place result := by
    simp only [State.answer, State.pushSeg, State.setSeg, State.finish, State.turnedAway, Quad.get_set_same,
      Quad.set_set, SegPort.answered, answerPayload, refuseFrame]
    rcases hg : s.links.segs.get x.port with ⟨up, _, _, _, _, _, _, _, _⟩
    cases up <;> simp [kindAnswer, oneByte, beBytes]
  unfold settle
  cases after <;> simp only [base]

/-- Where a received frame passes the Classifier and its payload reads, the owner rules on it (R163, R165). -/
theorem stationFrame_passed {α : Type} {c : KindClass} {parse : List Byte → Option α} {own : Ctx → α → State → Ruling State}
    {p : Fin 4} {b : FrameBody} {s : State} {x : Ctx} {a : α}
    (received : s.Received c p b x) (clear : classify s x c = none) (reads : parse b.payload = some a) :
    stationFrame c parse own p b s = settle x (own x a s) := by
  obtain ⟨h, hand, kind, ok, rfl⟩ := received
  simp [stationFrame, arrival, hand, kind, ok, clear, reads]

/-- Where the Classifier refuses a received frame, it is answered with the reason and reported (R164). -/
theorem stationFrame_refused {α : Type} {c : KindClass} {parse : List Byte → Option α}
    {own : Ctx → α → State → Ruling State} {p : Fin 4} {b : FrameBody} {s : State} {x : Ctx} {r : Reason}
    (received : s.Received c p b x) (refused : classify s x c = some r) :
    stationFrame c parse own p b s = (s.turnedAway x r 0 []).report x.src (.s x.port) x.kind r := by
  obtain ⟨h, hand, kind, ok, rfl⟩ := received
  simp [stationFrame, arrival, hand, kind, ok, refused, settle_refuse]

/-- A heard frame whose sender's role may send its kind passes the Classifier (R163). -/
theorem classify_heard {s : State} {k : OwnedKind} {p : Fin 4} {b : FrameBody} {x : Ctx} (heard : s.Heard k p b x)
    (role : x.entry.role.maySend k = true) : classify s x (.owned k) = none := by
  obtain ⟨⟨h, -, -, -, rfl⟩, zero, high, segment, joined⟩ := heard
  have some_role : (s.ctx p h b).entry.role ≠ .none := by
    intro none
    rw [none] at role
    cases k <;> simp [Role.maySend] at role
  have port : (s.ctx p h b).port = p := rfl
  unfold classify
  rw [if_neg (not_or.mpr ⟨zero, high⟩), if_neg some_role, if_neg (by simp [segment, port])]
  rw [if_neg (by rcases joined with rfl | rfl | h <;> simp_all [KindClass.joining]),
    if_neg (by simp [Station.maySend, role])]

/-- A heard frame of an owner of the records of chapters 2 to 7, whose payload reads and whose role may send it. -/
theorem bookFrame_heard {α : Type} {k : OwnedKind} {parse : List Byte → Option α} {own : Ctx → α → Books → Ruling Books}
    {p : Fin 4} {b : FrameBody} {s : State} {x : Ctx} {a : α}
    (heard : s.Heard k p b x) (role : x.entry.role.maySend k = true) (reads : parse b.payload = some a) :
    bookFrame k parse own p b s = settle x ((own x a s.books).on s.withBooks) := by
  unfold bookFrame
  rw [stationFrame_passed heard.1 (classify_heard heard role) reads]
  rfl

/-- The same where the owner accepts. -/
theorem bookFrame_accepted {α : Type} {k : OwnedKind} {parse : List Byte → Option α}
    {own : Ctx → α → Books → Ruling Books} {p : Fin 4} {b : FrameBody} {s : State} {x : Ctx} {a : α}
    {acc : Accepted Books} (heard : s.Heard k p b x) (role : x.entry.role.maySend k = true)
    (reads : parse b.payload = some a) (accepts : own x a s.books = .accept acc) :
    bookFrame k parse own p b s =
      (((s.withBooks acc.next).setSources acc.sources).accepted x acc.result).called x acc.call := by
  rw [bookFrame_heard heard role reads, accepts]
  simp [Ruling.on, settle_accept]

/-! ## Queued commands -/

theorem State.offerReply_room {s : State} {r : Reply} {c : Completes} (room : s.ReplyRoom) :
    s.offerReply r c = (s.placeReply r).complete c := by
  have h : s.canPlace = true := by simp [State.canPlace, room.1, room.2]
  simp [State.offerReply, h]

theorem State.placeReply_said (s : State) (c : Command) (r : Option Reason) (result : List Byte) :
    s.placeReply ⟨c.tag, c.code, r, result⟩ = s.said c r result := by
  simp only [State.placeReply, State.pushUplink, State.said, Reply.payload, replyFrame, kindReply]
  cases r <;> simp [oneByte, beBytes]

theorem State.replyTo_room {s : State} (room : s.ReplyRoom) (c : Command) (r : Option Reason) (result : List Byte) :
    s.replyTo c r result = s.completed c r result := by
  unfold State.replyTo
  rw [State.offerReply_room room, State.placeReply_said]
  rfl

theorem State.offerReply_full {s : State} {r : Reply} {c : Completes} (full : ¬ s.ReplyRoom) :
    s.offerReply r c =
      if c.holdsHead then { s.addWait (.reply r c) with mgmt := { s.mgmt with phase := .replyWaiting } }
      else s.addWait (.reply r c) := by
  have h : ¬ s.canPlace = true := fun h => full (by simpa [State.canPlace, State.ReplyRoom] using h)
  simp only [State.offerReply, if_neg h]
  rfl

/-- A command at the head whose reply finds no room stays there, acted on (R154, R187). -/
theorem State.replyTo_full {s : State} (full : ¬ s.ReplyRoom) (c : Command) (r : Option Reason) (result : List Byte) :
    s.replyTo c r result = s.replyWaits c r result := by
  unfold State.replyTo
  rw [State.offerReply_full full]
  rfl

/-- While the head's reply waits, no row of a queued command acts on it again (R187). -/
theorem State.headOperand_replyWaiting {α : Type} {s : State} (waits : s.mgmt.phase = .replyWaiting) (code : Byte)
    (parse : List Byte → Option α) : s.headOperand code parse = none := by
  simp [State.headOperand, State.headCommand, waits]

theorem State.AtHead.headCommand {s : State} {c : Command} {code : Byte} (h : s.AtHead c code) :
    s.headCommand code = some c := by
  obtain ⟨hc, hs, hp, rest, hq⟩ := h
  simp [State.headCommand, hs, hp, hq, hc]

theorem State.AtHead.operand {α : Type} {s : State} {c : Command} {code : Byte} {parse : List Byte → Option α} {a : α}
    (h : s.AtHead c code) (reads : parse c.params = some a) : s.headOperand code parse = some (c, a) := by
  simp [State.headOperand, h.headCommand, reads]

/-- A queued command at the head whose parameters read: its owner acts and the reply follows (R187). -/
theorem queued_head {α : Type} {code : Byte} {parse : List Byte → Option α}
    {act : α → State → Except Reason (State × List Byte)} {s : State} {c : Command} {a : α}
    (head : s.AtHead c code) (reads : parse c.params = some a) :
    queued code parse act s =
      (match act a s with
        | .error r => s.replyTo c (some r) []
        | .ok (t, result) => t.replyTo c none result) := by
  cases h : act a s <;> simp only [queued, head.operand reads, h]

theorem State.ReplyRoom.withBooks {s : State} (room : s.ReplyRoom) (bk : Books) : (s.withBooks bk).ReplyRoom := room

/-- A queued command over the records of chapters 2 to 7 that its owner accepts. -/
theorem queuedBooks_accepted {α : Type} {code : Byte} {parse : List Byte → Option α}
    {act : α → State → Except Reason (Books × List Byte)} {s : State} {c : Command} {a : α} {bk : Books}
    {result : List Byte} (head : s.AtHead c code) (reads : parse c.params = some a) (room : s.ReplyRoom)
    (accepts : act a s = .ok (bk, result)) :
    queuedBooks code parse act s = (s.withBooks bk).completed c none result := by
  unfold queuedBooks
  rw [queued_head head reads]
  simp only [accepts]
  exact State.replyTo_room (room.withBooks bk) c none result

/-- A queued command that its owner refuses changes no record. -/
theorem queuedBooks_refused {α : Type} {code : Byte} {parse : List Byte → Option α}
    {act : α → State → Except Reason (Books × List Byte)} {s : State} {c : Command} {a : α} {r : Reason}
    (head : s.AtHead c code) (reads : parse c.params = some a) (room : s.ReplyRoom) (refuses : act a s = .error r) :
    queuedBooks code parse act s = s.completed c (some r) [] := by
  unfold queuedBooks
  rw [queued_head head reads]
  simp only [refuses]
  exact State.replyTo_room room c (some r) []

/-- A read changes nothing but the queue and the uplink. -/
theorem queuedRead_accepted {α : Type} {code : Byte} {parse : List Byte → Option α}
    {act : α → State → Except Reason (List Byte)} {s : State} {c : Command} {a : α} {result : List Byte}
    (head : s.AtHead c code) (reads : parse c.params = some a) (room : s.ReplyRoom) (accepts : act a s = .ok result) :
    queuedRead code parse act s = s.completed c none result := by
  unfold queuedRead
  rw [queued_head head reads]
  simp only [accepts]
  exact State.replyTo_room room c none result

/-! ## A second of a qualification -/

/-- A qualification stands still once either timer has run down, and before that loses a second of both. -/
theorem Qualification.tick_cases (q : Qualification) :
    ((q.qual = 0 ∨ q.gap = 0) ∧ q.tick = q)
      ∨ (0 < q.qual ∧ 0 < q.gap ∧ q.tick = { q with qual := q.qual - 1, gap := q.gap - 1 }) := by
  unfold Qualification.tick
  split
  · exact .inl ⟨‹_›, rfl⟩
  · exact .inr ⟨by omega, by omega, rfl⟩

/-- A second leaves both timers at 0 only where they were there already or fall together in it (R134, R141). -/
theorem Qualification.tick_together {q : Qualification} (qual : q.tick.qual = 0) (gap : q.tick.gap = 0) :
    (q.qual = 0 ∧ q.gap = 0) ∨ (q.qual = 1 ∧ q.gap = 1) := by
  obtain ⟨-, e⟩ | ⟨pq, pg, e⟩ := q.tick_cases <;> rw [e] at qual gap
  · exact .inl ⟨qual, gap⟩
  · exact .inr ⟨by simp only at qual; omega, by simp only at gap; omega⟩

end Sys2Proof.Machine
end

