-- ==== Sys2Proof/Laws/Positions.lean ====
section
/-! SUPPORT. Amounts lists, column sums and movements: what each operation over the Position Table does, said once. -/

namespace Sys2Proof.Machine
open Sys2Proof

@[simp] theorem addLists_get (a b : Amounts) (c : Fin 4) : (addLists a b).get c = a.get c + b.get c := by
  simp [addLists]

@[simp] theorem subLists_get (a b : Amounts) (c : Fin 4) : (subLists a b).get c = a.get c - b.get c := by
  simp [subLists]

@[simp] theorem negList_get (a : Amounts) (c : Fin 4) : (negList a).get c = -a.get c := by
  simp [negList]

@[simp] theorem only_get (c : Fin 4) (v : Int) (e : Fin 4) : (only c v).get e = if e = c then v else 0 := by
  simp [only]

@[simp] theorem noAmounts_get (c : Fin 4) : noAmounts.get c = 0 := by
  simp [noAmounts]

/-- A sum after one member is replaced. -/
theorem sum_set (l : List Int) (i : Nat) (x : Int) (h : i < l.length) : (l.set i x).sum = l.sum + (x - l[i]) := by
  induction l generalizing i with
  | nil => simp at h
  | cons a l ih =>
    cases i with
    | zero => simp only [List.set_cons_zero, List.sum_cons, List.getElem_cons_zero]; omega
    | succ i =>
      have := ih i (by simpa using h)
      simp only [List.set_cons_succ, List.sum_cons, List.getElem_cons_succ, this]
      omega

/-- A column sum after one record is replaced (R23). -/
theorem columnSum_set {n : Nat} (t : Tab Amounts n) (i : Fin n) (x : Amounts) (c : Fin 4) :
    columnSum (t.set i x) c = columnSum t c + (x.get c - (t.get i).get c) := by
  have h : i.val < (t.rows.map fun l => l.get c).length := by simp [t.len]
  have := sum_set (t.rows.map fun l => l.get c) i.val (x.get c) h
  simp only [columnSum, Tab.set, Tab.get, List.map_set]
  rw [this]
  simp

/-- A movement that is accepted gives the positions after it and nothing else (R24). -/
theorem Positions.present_after {p q : Positions} {m : Move} (h : p.present m = .ok q) : q = p.after m := by
  unfold Positions.present at h
  dsimp only at h
  split at h
  · cases h
  · split at h
    · cases h
    · cases h
      rfl

end Sys2Proof.Machine
end

