-- ==== Sys2Proof/WellFormed.lean ====
section
/-! DEFINITION. Which commands are well formed. The operand types already hold every index to its range (R22, R54, R77,
R93, R100, R131, R37); two checks remain. -/

namespace Sys2Proof

/-- The Admission Unit holds an entry for each station address 1 to 254 (R166). -/
def stationAddress (a : Byte) : Bool := a != 0 && a != 255

/-- A command's operands are ones the outside can give. -/
def Instr.wellFormed : Instr → Bool
  | .admissionTimerExpiry a => stationAddress a
  | .readStatus b => oneCommand 0x1E b.payload
  | .resume b => oneCommand 0x1F b.payload
  | .flush b => oneCommand 0x20 b.payload
  | _ => true

end Sys2Proof
end

