-- ==== Sys2Proof/Tests/Slice0.lean ====
section
/-! SUPPORT. Tests: the checks of WellFormed refuse ill-formed commands; the worked figures of the spec; and, for each
statement of Certificates/Slice0/Obligations.lean that has hypotheses, a concrete state and operands that meet them. -/

namespace Sys2Proof.Tests
open Sys2Proof Sys2Proof.Machine

-- One theorem at a time: each kernel evaluation below waits for everything before it, and each would hold a thread.
set_option Elab.async false

/-! ## WellFormed refuses -/

theorem test_wellFormed_refuses_admission_expiry_of_0 : (Instr.admissionTimerExpiry 0).wellFormed = false := by decide
theorem test_wellFormed_refuses_admission_expiry_of_255 : (Instr.admissionTimerExpiry 255).wellFormed = false := by decide
theorem test_wellFormed_takes_admission_expiry_of_254 : (Instr.admissionTimerExpiry 254).wellFormed = true := by decide

/-- A READ_STATUS row whose payload is a RESUME, or a header that runs past the payload's end. -/
theorem test_wellFormed_refuses_readStatus :
    (Instr.readStatus ⟨[0, 7, 0x1F, 0, 0], 0⟩).wellFormed = false ∧
      (Instr.readStatus ⟨[0, 7, 0x1E, 0, 1], 0⟩).wellFormed = false := by decide
theorem test_wellFormed_refuses_resume : (Instr.resume ⟨[0, 7, 0x20, 0, 0], 0⟩).wellFormed = false := by decide
theorem test_wellFormed_refuses_flush : (Instr.flush ⟨[], 0⟩).wellFormed = false := by decide
theorem test_wellFormed_takes_flush : (Instr.flush ⟨[0, 7, 0x20, 0, 0], 0⟩).wellFormed = true := by decide

/-- No row of the table gives bits. -/
theorem test_no_word_spells_a_command : decodeTableWord 8 0 = none := by decide

/-! ## Figures of the spec -/

/-- The generator, initial value and bit order of section 8.6 are those of CRC-16/CCITT-FALSE, whose check value over the
ASCII digits 1 to 9 is 29B1. -/
theorem test_crc_check_value : crc16 [0x31, 0x32, 0x33, 0x34, 0x35, 0x36, 0x37, 0x38, 0x39] = 0x29B1 := by
  decide +kernel

/-- Section 1.11: a reading of 38,725 gives 751 coins; section 6.12: a reading of 23,300 gives 281. -/
theorem test_weigh_worked : weighCount 1200 51200 1000 38725 = 751 ∧ weighCount 800 40800 500 23300 = 281 := by decide

/-- The rates of section 1.12. -/
def atRate (r : Nat) : Tables :=
  { Tables.powerOn with rates := ⟨Rate.powerOn, ⟨true, r⟩, Rate.powerOn, Rate.powerOn⟩ }

theorem test_conv_half_even :
    (atRate 1163550).conv 10000 1 = (11636, false) ∧ (atRate 1163550).conv (-10000) 1 = (-11636, false) ∧
      (atRate 1162450).conv 10000 1 = (11624, false) ∧ (atRate 1163500).conv 12345 1 = (14363, false) := by
  decide +kernel

/-- The tables of section 1.11, with domain 0 as the lane's. -/
def caseTables : Tables :=
  { atRate 1163500 with
    denoms := ((((((Tables.powerOn.denoms.set 1 ⟨true, 0, 5000, .note, false, 0, 0, 1⟩).set 2
      ⟨true, 0, 2000, .note, false, 0, 0, 1⟩).set 4 ⟨true, 0, 20, .coin, true, 1200, 51200, 1000⟩).set 10
      ⟨true, 1, 5000, .note, false, 0, 0, 1⟩).set 11 ⟨true, 1, 1000, .note, false, 0, 0, 1⟩).set 12
      ⟨true, 1, 100, .coin, false, 0, 0, 1⟩).set 13 ⟨true, 1, 5, .coin, false, 0, 0, 1⟩
    domains := Tables.powerOn.domains.set 0 ⟨500, 50⟩ }

def caseCounts : Tab Nat 32 :=
  ((((((Tab.const 32 0).set 1 20).set 2 17 |>.set 4 751).set 10 2).set 11 2).set 12 3).set 13 9

/-- Section 1.11: the verdict is WITHIN with base variance -1,000 and an allowed variance of 1,321; with one note set
aside as suspect it is SHORT. -/
theorem test_worked_close :
    (caseTables.closeValue 0 ⟨150020, 12345, 0, 0⟩ caseCounts (Tab.const 32 0)).toOption =
      some ⟨⟨⟨149020, 12345, 0, 0⟩, ⟨0, 0, 0, 0⟩, .within, -1000⟩, 1321, false⟩ ∧
    (caseTables.closeValue 0 ⟨150020, 12345, 0, 0⟩ (caseCounts.set 2 16) ((Tab.const 32 0).set 2 1)).toOption =
      some ⟨⟨⟨147020, 12345, 0, 0⟩, ⟨2000, 0, 0, 0⟩, .short, -3000⟩, 1321, false⟩ := by decide +kernel

/-! ## A store to test in -/

/-- One station of each role on segment 0, with the entries the worked sequences give. -/
def tables : Tables :=
  { atRate 1163500 with
    stations := ((((((Tables.powerOn.stations.set 10 ⟨.till 7 2, 0, 0, false⟩).set 20 ⟨.safe 5, 0, 0, false⟩).set 30
      ⟨.counter 3, 0, 0, false⟩).set 40 ⟨.receiving, 0, 0, true⟩).set 50 ⟨.supervisor, 0, 0, false⟩).set 60
      ⟨.dock 0, 0, 0, false⟩)
    denoms := (Tables.powerOn.denoms.set 0 ⟨true, 0, 10000, .note, false, 0, 0, 1⟩).set 3
      ⟨true, 0, 100, .coin, true, 800, 40800, 500⟩
    tillClasses := Tables.powerOn.tillClasses.set 2 ⟨300000, 20, .refuseCash⟩
    safes := Tables.powerOn.safes.set 5 ⟨3, 500000, .overfill⟩
    staff := (Tables.powerOn.staff.set 0 ⟨2301, 1, true, true, true⟩).set 63 ⟨2302, 1, true, true, true⟩
    couriers := Tables.powerOn.couriers.set 31 ⟨5150, true⟩
    schedule := Tables.powerOn.schedule.set 7 ⟨true, 34800, 39600⟩ }

/-- The ports UP, every station ADMITTED at port 0, the time of day 09:40:00. -/
def store : State :=
  { State.reset with
    store := ⟨tables, tables, 0, none⟩
    links := { Links.powerOn with
      segs := Quad.const { SegPort.powerOn with up := true }, uport := { UpPort.powerOn with up := true } }
    admission := Tab.const 256 (.admitted 0)
    clock := ⟨34800, false⟩ }

/-- The store with other records. -/
def withBooks (f : Books → Books) : State := { store with books := f store.books }

def handOf (k : Byte) (src : Byte) (bs : List Byte) : Hand := ⟨⟨0, src, k, BitVec.ofNat 16 bs.length⟩, 0⟩
def bodyOf (k : Byte) (src : Byte) (bs : List Byte) : FrameBody := ⟨bs, crc16 (crcCover 0 src k bs.length bs)⟩

/-- The state with a frame in hand at port 0. -/
def hearing (s : State) (k : Byte) (src : Byte) (bs : List Byte) : State :=
  s.setSeg 0 fun g => { g with hand := some (handOf k src bs) }

/-- The frame as its owner sees it. -/
def seen (s : State) (k : Byte) (src : Byte) (bs : List Byte) : Ctx :=
  (hearing s k src bs).ctx 0 (handOf k src bs) (bodyOf k src bs)

/-- The hypotheses the statements of station frames share, met by one frame. -/
def Meets (k : OwnedKind) (s : State) (src : Byte) (bs : List Byte) (role : Role) : Prop :=
  (hearing s k.code src bs).Heard k 0 (bodyOf k.code src bs) (seen s k.code src bs) ∧
    (seen s k.code src bs).entry.role = role

def meetsCheck (k : OwnedKind) (s : State) (src : Byte) (bs : List Byte) (role : Role) : Bool :=
  kindClass k.code == .owned k && receiveOk (handOf k.code src bs).hdr (bodyOf k.code src bs) && src != 0 && src != 255
    && (seen s k.code src bs).entry.segment == 0 && s.admitted src && (seen s k.code src bs).entry.role == role

theorem meets {k : OwnedKind} {s : State} {src : Byte} {bs : List Byte} {role : Role}
    (h : meetsCheck k s src bs role = true) : Meets k s src bs role := by
  simp only [meetsCheck, Bool.and_eq_true, beq_iff_eq, bne_iff_ne] at h
  obtain ⟨⟨⟨⟨⟨⟨kind, ok⟩, zero⟩, high⟩, segment⟩, admitted⟩, role⟩ := h
  exact ⟨⟨⟨_, by simp [hearing, State.setSeg, Quad.set, Quad.get], kind, ok, rfl⟩, zero, high, segment,
    .inr (.inr admitted)⟩, role⟩

/-- A command alone in the queue. -/
def queueing (s : State) (code : Byte) (params : List Byte) : State :=
  { s with mgmt := ⟨[⟨7, code, params⟩], false, .fresh⟩ }

/-- The hypotheses the statements of queued commands share. -/
def Ready (s : State) (code : Byte) (params : List Byte) : Prop :=
  (queueing s code params).AtHead ⟨7, code, params⟩ code ∧ (queueing s code params).ReplyRoom

theorem ready {s : State} (code : Byte) (params : List Byte) (h : s.canPlace = true) : Ready s code params := by
  simp only [State.canPlace, Bool.and_eq_true, List.isEmpty_iff] at h
  exact ⟨⟨rfl, rfl, rfl, [], rfl⟩, h⟩

theorem store_canPlace : store.canPlace = true := by decide +kernel

theorem atStore (f : Books → Books) (code : Byte) (params : List Byte) : Ready (withBooks f) code params :=
  ready code params store_canPlace

/-! ## Laws: a state that meets each, with a step -/

/-- Cash in a drawer and in the reserve, at the top of its range. -/
def heldCash : State :=
  { withBooks (fun bk => { bk with
      pos := { Positions.powerOn with
        drawer := Positions.powerOn.drawer.set 7 ⟨1500, 0, 0, 0⟩, reserve := ⟨999999999999, 0, 0, 0⟩
        accountability := ⟨999999999999, 0, 0, 0⟩, variance := ⟨1500, 0, 0, 0⟩ }
      tills := bk.tills.set 7 ⟨.opened, some noAmounts, none, true, 1, none⟩ }) with
    pending := [.timeOfDayTick] }

theorem witness_EveryStepConservesCash :
    heldCash.books.pos.Conserved ∧ ∃ t, step heldCash = .next t := by
  refine ⟨?_, _, rfl⟩
  unfold Positions.Conserved; decide +kernel

theorem witness_AmountsStayInRange : heldCash.books.pos.InRange := by
  have zero : noAmounts.InRange := by unfold Amounts.InRange; decide
  refine ⟨fun t => ?_, fun t => ?_, ?_, zero, fun k => ?_, zero, ?_, by decide⟩
  · simp only [heldCash, withBooks, Tab.get_set]
    split
    · unfold Amounts.InRange; decide
    · rw [Positions.powerOn, Tab.get_const]; exact zero
  · simp only [heldCash, withBooks, Positions.powerOn, Tab.get_const]; exact zero
  · unfold Amounts.InRange; decide
  · simp only [heldCash, withBooks, Positions.powerOn, Tab.get_const]; exact zero
  · unfold Amounts.InRange; decide

theorem witness_EveryStepKeepsUnitLaws_tills :
    ∀ i, (heldCash.books.tills.get i).Lawful (heldCash.books.pos.drawer.get i) (heldCash.books.pos.transit.get i) := by
  intro i
  have transit : heldCash.books.pos.transit = Tab.const 160 noAmounts := rfl
  have drawer : heldCash.books.pos.drawer = (Tab.const 160 noAmounts).set 7 ⟨1500, 0, 0, 0⟩ := rfl
  have tills : heldCash.books.tills = (Tab.const 160 Till.powerOn).set 7 ⟨.opened, some noAmounts, none, true, 1, none⟩ :=
    rfl
  rw [transit, drawer, tills, Tab.get_const, Tab.get_set, Tab.get_set, Tab.get_const, Tab.get_const]
  unfold Till.Lawful
  split <;> decide

/-- A queue of 15 frames with one slot reserved by the frame in hand. -/
def fullQueue : State :=
  (hearing store 1 10 []).setSeg 0 fun g => { g with queue := List.replicate 15 ⟨10, 0, 0xF0, []⟩ }

/-- Two stations, each in one record. -/
def twoFaults : Recorder :=
  ⟨((Tab.const 8 none).set 0 (some ⟨63, .s 2, 0x20, .notAdmitted, 28800, 255⟩)).set 7
    (some ⟨90, .s 0, 1, .unknownStation, 28825, 0⟩), false, some 0⟩

def oneEach (r : Recorder) : Bool :=
  (List.finRange 8).all fun i => (List.finRange 8).all fun j =>
    match r.records.get i, r.records.get j with
    | some f, some g => f.station != g.station || i == j
    | _, _ => true

theorem oneEach_of {r : Recorder} (h : oneEach r = true) : r.OneEach := by
  intro i j f g hi hj e
  have := List.all_eq_true.mp (List.all_eq_true.mp h i (List.mem_finRange i)) j (List.mem_finRange j)
  simpa [hi, hj, e] using this

theorem witness_EveryStepKeepsQueuesAndFaultRecords : fullQueue.QueuesBounded ∧ twoFaults.OneEach :=
  ⟨by unfold State.QueuesBounded; decide +kernel, oneEach_of (by decide +kernel)⟩

/-- A bag of 39 pouches with a reservation on it, and a stopped safe. -/
def fullSafe : Safe :=
  ⟨.running, ⟨.active, List.replicate 39 1, 500001⟩, ⟨.full, [0], 1⟩, some ⟨1, 2, .a, 30⟩, true⟩

theorem bothSides {p : BagSide → Prop} (a : p .a) (b : p .b) : ∀ side, p side := fun side => by cases side <;> assumption

theorem witness_EveryStepKeepsUnitLaws_safes_and_lanes : fullSafe.Lawful ∧ Lane.idle.Lawful := by
  refine ⟨⟨by decide, by decide, bothSides (by decide) (by decide), bothSides (by decide) (by decide), ?_, bothSides (by decide +kernel) (by decide +kernel)⟩,
    fun _ => rfl⟩
  intro r h
  cases h
  rfl

/-! ## Records to test with -/

/-- The same frame whatever the records of chapters 2 to 7 are. -/
theorem meetsBooks {k : OwnedKind} {src : Byte} {bs : List Byte} {role : Role}
    (h : meetsCheck k store src bs role = true) (f : Books → Books) : Meets k (withBooks f) src bs role := meets h

/-- A deposit record in a state. -/
def dep (st : DepositState) (n : Nat) : Deposit :=
  ⟨st, none, .pickup, n, .till 7, ⟨84000, 0, 0, 0⟩, 84000, none, none, none, none, 0, none, some 0, false⟩

def books : Books := store.books
def withDep (i : Fin 512) (d : Deposit) : Books := { books with deposits := books.deposits.set i (some d) }
def withTill (r : Till) : Books := { books with tills := books.tills.set 7 r }

/-- An amounts list of the base currency as a frame carries it. -/
def baseList (v : Nat) : List Byte := [1, 0] ++ beBytes 8 v

def trading (st : TillState) (t : Option Timer) : Till := ⟨st, some ⟨50000, 0, 0, 0⟩, t, false, 0, none⟩

/-- Till 7 trading with a drawer. -/
def drawerOf (v : Int) (r : Till) : Books :=
  { withTill r with pos := { Positions.powerOn with
      drawer := Positions.powerOn.drawer.set 7 ⟨v, 0, 0, 0⟩, accountability := ⟨v, 0, 0, 0⟩ } }

/-! ## Deposits and expiries -/

theorem witness_OverdueExpiries :
    (withDep 511 (dep .carried 1)).deposits.get 511 = some (dep .carried 1) ∧ (dep .carried 1).carry = some 0 ∧
    ({ dep .carried 1 with carry := some 1 } : Deposit).carry ≠ some 0 ∧
    ((withTill (trading .pickupDue (some ⟨0, 1200⟩))).tills.get 7).timer = some ⟨0, 1200⟩ ∧
    ((withTill (trading .pickupDue (some ⟨0, 1200⟩))).tills.get 7).state = .pickupDue ∧
    (⟨1, 1200⟩ : Timer).remaining ≠ 0 := by decide +kernel

theorem witness_PurgeEmptiesClosedRecords :
    Ready (withBooks fun _ => withDep 3 (dep .closed 1)) 0x03 [] ∧
    (withDep 3 (dep .closed 1)).deposits.get 3 = some (dep .closed 1) ∧ (dep .closed 1).state = .closed ∧
    (withDep 3 (dep .carried 1)).deposits.get 3 = some (dep .carried 1) ∧ (dep .carried 1).state ≠ .closed :=
  ⟨atStore _ _ _, by decide +kernel⟩

/-- Every record in use: all live, or the last one CLOSED. -/
def registerFull : Books := { books with deposits := Tab.const 512 (some (dep .carried 9)) }
def registerReusable : Books :=
  { registerFull with deposits := registerFull.deposits.set 511 (some (dep .closed 8)), closeOrder := [511] }

theorem findLive_withDep (i : Fin 512) (d : Deposit) (n : Nat) :
    (withDep i d).findLive n = if d.live && d.number == n then some i else none :=
  Books.findLive_only rfl n

theorem numberInUse_withDep (i : Fin 512) (d : Deposit) (n : Nat) :
    (withDep i d).numberInUse n = (d.live && d.number == n) := by
  have bags : (withDep i d).bagItemCarries n = false := rfl
  rw [Books.numberInUse, findLive_withDep, bags]
  cases d.live && d.number == n <;> rfl

theorem witness_CreationRequestTakesTheRightRecord :
    (withDep 0 (dep .carried 5)).numberInUse 5 = true ∧
    (registerFull.numberInUse 5 = false ∧ (∀ i, registerFull.deposits.get i ≠ none) ∧ registerFull.closeOrder = []) ∧
    ((withDep 0 (dep .carried 5)).numberInUse 6 = false ∧ (withDep 0 (dep .carried 5)).deposits.get 1 = none ∧
      ∀ j, j < 1 → (withDep 0 (dep .carried 5)).deposits.get j ≠ none) ∧
    ((∀ j, registerReusable.deposits.get j ≠ none) ∧ registerReusable.closeOrder = [511]) ∧
    (books.pos.present (deliveryMove ⟨5, 0, 0, 0⟩)).toBool = true ∧
    (books.pos.present (pickupMove 7 ⟨5, 0, 0, 0⟩)).toBool = false := by
  refine ⟨by rw [numberInUse_withDep]; decide, ⟨?_, ?_, rfl⟩, ⟨by rw [numberInUse_withDep]; decide, by decide +kernel, ?_⟩,
    ⟨?_, rfl⟩, by decide +kernel, by decide +kernel⟩
  · have bags : registerFull.bagItemCarries 5 = false := rfl
    have live : registerFull.findLive 5 = none :=
      Tab.firstIx_eq_none fun i => by rw [registerFull, Tab.get_const]; rfl
    simp [Books.numberInUse, bags, live]
  · intro i
    simp [registerFull]
  · intro j h
    have : j = 0 := by omega
    subst this
    simp [withDep]
  · intro j
    simp only [registerReusable, Tab.get_set]
    split
    · simp
    · simp [registerFull]

/-- Tables with a denomination of a disabled currency and one of face 1,000,000. -/
def oddTables : Tables :=
  { tables with
    denoms := (tables.denoms.set 5 ⟨true, 2, 1, .note, false, 0, 0, 1⟩).set 6 ⟨true, 0, 1000000, .note, false, 0, 0, 1⟩ }

def pieces (d : Fin 32) (n : Nat) : Tab Nat 32 := (Tab.const 32 0).set d n
def noPieces : Tab Nat 32 := Tab.const 32 0

/-- The bounds of a weighing and of a verdict; totals of no valid denomination, of a disabled currency, beyond the limit and
within it; declared lists of a disabled and of an enabled currency. -/
theorem witness_ValuationOfAClose :
    ((0 : Nat) < 1 ∧ (1200 : Nat) ≤ 1200 ∧ 1200 < 1201) ∧
    (oddTables.denoms.get 31).valid = false ∧ (pieces 31 1).get 31 ≠ 0 ∧
    (oddTables.denoms.get 5).valid = true ∧ (oddTables.rate (oddTables.denoms.get 5).currency).enabled = false ∧
    (oddTables.denoms.get 6).valid = true ∧ (oddTables.rate (oddTables.denoms.get 6).currency).enabled = true ∧
    (999999999999 : Int) < 9999999 * (oddTables.denoms.get 6).face ∧
    (oddTables.valueTotals (pieces 31 1) noPieces).toBool = false ∧
    (oddTables.valueTotals noPieces (pieces 5 1)).toBool = false ∧
    (oddTables.valueTotals noPieces (pieces 6 9999999)).toBool = false ∧
    (oddTables.valueTotals (pieces 6 999999) (pieces 0 1)).toOption =
      some (⟨999999000000, 0, 0, 0⟩, ⟨10000, 0, 0, 0⟩) ∧
    (oddTables.closeValue 0 ⟨0, 0, 1, 0⟩ noPieces noPieces).toBool = false ∧
    (oddTables.closeValue 0 ⟨0, 1, 0, 0⟩ noPieces noPieces).toBool = true ∧
    verdictOf ⟨5, -5, 0, 0⟩ 0 0 = .within ∧ verdictOf ⟨0, 0, 0, 0⟩ 0 0 = .balanced ∧
    verdictOf ⟨1, 0, 0, 0⟩ 1 0 = .over ∧ verdictOf ⟨-1, 0, 0, 0⟩ (-1) 0 = .short := by decide +kernel

/-- A departure's consignments, each named once. -/
theorem witness_MovementsChangeTheirPositions : ([0, 7] : List (Fin 8)).Nodup := by decide

/-- R24's three outcomes, each at its bound. -/
theorem witness_MovementsAreWhole :
    (Positions.powerOn.present (openingMove ⟨999999999999, 0, 0, 0⟩)).toBool = true ∧
    (Positions.powerOn.present (openingMove ⟨1000000000000, 0, 0, 0⟩)).toBool = false ∧
    (Positions.powerOn.present (openingMove ⟨-1, 0, 0, 0⟩)).toBool = false := by decide +kernel

/-! ## Tills -/

/-- The reserve holds `v`. -/
def reserveOf (v : Int) (bk : Books) : Books :=
  { bk with pos := { Positions.powerOn with reserve := ⟨v, 0, 0, 0⟩, accountability := ⟨v, 0, 0, 0⟩ } }

def floatOut : Books :=
  { withTill (trading .floatTransit none) with pos := { Positions.powerOn with
      transit := Positions.powerOn.transit.set 7 ⟨50000, 0, 0, 0⟩, accountability := ⟨50000, 0, 0, 0⟩ } }

theorem witness_FloatIssueAndRecall :
    (∀ bs f, Ready (withBooks f) 0x05 bs ∧ Ready (withBooks f) 0x06 bs) ∧
    readFloatIssue (7 :: baseList 50000) = some ⟨7, [(0, 50000)]⟩ ∧ readIndex 160 [7] = some 7 ∧
    (floatOut.tills.get 7).state ≠ .closed ∧ (books.tills.get 7).state = .closed ∧
    readFloatIssue (7 :: [1, 2] ++ beBytes 8 1) = some ⟨7, [(2, 1)]⟩ ∧
    tables.currenciesEnabled [(2, 1)] = false ∧ tables.currenciesEnabled [(0, 50000)] = true ∧
    (books.pos.present (floatIssueMove 7 ⟨50000, 0, 0, 0⟩)).toBool = false ∧
    ((reserveOf 50000 books).pos.present (floatIssueMove 7 ⟨50000, 0, 0, 0⟩)).toBool = true ∧
    (books.tills.get 7).state ≠ .floatTransit ∧ (floatOut.tills.get 7).state = .floatTransit ∧
    (floatOut.pos.present (floatRecallMove floatOut.pos 7)).toBool = true ∧
    (({ floatOut.pos with reserve := ⟨999999999999, 0, 0, 0⟩ } : Positions).present
      (floatRecallMove floatOut.pos 7)).toBool = false :=
  ⟨fun bs f => ⟨atStore f 0x05 bs, atStore f 0x06 bs⟩, by decide +kernel⟩

theorem witness_DrawerLimitCheckByState :
    (300000 : Int) < (tables.base ((drawerOf 300001 (trading .opened none)).pos.drawer.get 7)).1 ∧
    ((drawerOf 300001 (trading .opened none)).tills.get 7).state = .opened ∧
    ((drawerOf 300001 (trading .pickupOverdue none)).tills.get 7).state ≠ .opened ∧
    (tables.base ((drawerOf 300000 (trading .pickupOverdue none)).pos.drawer.get 7)).1 ≤ 300000 ∧
    (tables.tillClasses.get 2).limit = 300000 := by decide +kernel

theorem witness_TillOpenConfirmsTheFloat :
    (∀ f, Meets .tillOpen (withBooks f) 10 (baseList 49500) (.till 7 2)) ∧
    readDeclared (baseList 49500) = some [(0, 49500)] ∧ (books.tills.get 7).state = .closed ∧
    ((withTill (trading .opened none)).tills.get 7).state.trades = true ∧
    (floatOut.tills.get 7).state = .floatTransit ∧ tables.currenciesEnabled [(0, 49500)] = true ∧
    (floatOut.pos.present (floatConfirmMove floatOut.pos 7 ⟨49500, 0, 0, 0⟩)).toBool = true :=
  ⟨meetsBooks (by decide +kernel), by decide +kernel⟩

def tenders (a b : Nat) : List Byte := 0 :: beBytes 8 a ++ beBytes 8 b

theorem witness_TillTenderAndPaidout :
    (∀ f, Meets .tillTender (withBooks f) 10 (tenders 1 0) (.till 7 2)) ∧
    (∀ f, Meets .tillTender (withBooks f) 10 (tenders 0 1) (.till 7 2)) ∧
    (∀ f, Meets .tillPaidout (withBooks f) 10 (0 :: beBytes 8 1) (.till 7 2)) ∧
    readTender (tenders 1 0) = some ⟨0, 1, 0⟩ ∧ readTender (tenders 0 1) = some ⟨0, 0, 1⟩ ∧
    readPaidOut (0 :: beBytes 8 1) = some ⟨0, 1⟩ ∧ (books.tills.get 7).state.trades = false ∧
    ((withTill (trading .pickupOverdue none)).tills.get 7).state = .pickupOverdue ∧
    (tables.tillClasses.get 2).action = .refuseCash ∧ tables.enabled 0 = true ∧
    ((withTill (trading .opened none)).tills.get 7).state.trades = true ∧
    ((withTill (trading .opened none)).tills.get 7).state ≠ .pickupOverdue ∧
    (books.pos.present (tenderMove 7 0 1 0)).toBool = true ∧ (books.pos.present (tenderMove 7 0 0 1)).toBool = false ∧
    (books.pos.present (paidOutMove 7 0 1)).toBool = false ∧
    ((drawerOf 1 (trading .opened none)).pos.present (paidOutMove 7 0 1)).toBool = true :=
  ⟨meetsBooks (by decide +kernel), meetsBooks (by decide +kernel), meetsBooks (by decide +kernel), by decide +kernel⟩

/-- A list of the disabled currency 2. -/
def disabledList : List Byte := [1, 2] ++ beBytes 8 1

/-- A currency that is not enabled, and a confirmation whose variance would pass its limit. -/
theorem witness_till_refusals :
    (∀ f, Meets .tillOpen (withBooks f) 10 disabledList (.till 7 2)) ∧ readDeclared disabledList = some [(2, 1)] ∧
    (∀ f, Meets .tillTender (withBooks f) 10 (2 :: beBytes 8 1 ++ beBytes 8 0) (.till 7 2)) ∧
    readTender (2 :: beBytes 8 1 ++ beBytes 8 0) = some ⟨2, 1, 0⟩ ∧
    (∀ f, Meets .tillPaidout (withBooks f) 10 (2 :: beBytes 8 1) (.till 7 2)) ∧
    readPaidOut (2 :: beBytes 8 1) = some ⟨2, 1⟩ ∧
    (∀ f, Meets .tillPickup (withBooks f) 10 (beBytes 4 9 ++ disabledList) (.till 7 2)) ∧
    (∀ f, Meets .tillClose (withBooks f) 10 (beBytes 4 9 ++ disabledList) (.till 7 2)) ∧
    readContainer (beBytes 4 9 ++ disabledList) = some ⟨9, [(2, 1)]⟩ ∧
    tables.currenciesEnabled [(2, 1)] = false ∧ tables.enabled 2 = false ∧
    (({ floatOut.pos with variance := ⟨999999999999, 0, 0, 0⟩ } : Positions).present
      (floatConfirmMove floatOut.pos 7 ⟨50001, 0, 0, 0⟩)).toBool = false :=
  ⟨meetsBooks (by decide +kernel), by decide +kernel, meetsBooks (by decide +kernel), by decide +kernel,
    meetsBooks (by decide +kernel), by decide +kernel, meetsBooks (by decide +kernel), meetsBooks (by decide +kernel),
    by decide +kernel, by decide +kernel, by decide +kernel, by decide +kernel⟩

def pouchOf (n v : Nat) : List Byte := beBytes 4 n ++ baseList v

theorem deposits_drawerOf (v : Int) (r : Till) (i : Fin 512) : (drawerOf v r).deposits.get i = none := by
  have e : (drawerOf v r).deposits = Tab.const 512 none := rfl
  rw [e, Tab.get_const]

theorem allocate_drawerOf (v : Int) (r : Till) : (drawerOf v r).allocate = some 0 :=
  Books.allocate_empty (deposits_drawerOf v r)

theorem numberInUse_drawerOf (v : Int) (r : Till) (n : Nat) : (drawerOf v r).numberInUse n = false := by
  have bags : (drawerOf v r).bagItemCarries n = false := rfl
  have live : (drawerOf v r).findLive n = none :=
    Tab.firstIx_eq_none fun i => by rw [deposits_drawerOf]; rfl
  simp [Books.numberInUse, bags, live]

theorem witness_TillPickupAndClose :
    (∀ f, Meets .tillPickup (withBooks f) 10 (pouchOf 700500001 4000) (.till 7 2)) ∧
    (∀ f, Meets .tillClose (withBooks f) 10 (pouchOf 700500001 4000) (.till 7 2)) ∧
    (readContainer (pouchOf 700500001 4000) = some ⟨700500001, [(0, 4000)]⟩ ∧
      tables.currenciesEnabled [(0, 4000)] = true ∧
      ((drawerOf 4000 (trading .opened none)).tills.get 7).state.trades = true) ∧
    (∀ r, ((drawerOf 4000 r).pos.present (pickupMove 7 ⟨4000, 0, 0, 0⟩)).toBool = true ∧
      (drawerOf 4000 r).numberInUse 700500001 = false ∧ (drawerOf 4000 r).allocate = some 0) ∧
    (∀ r, ((drawerOf 3999 r).pos.present (pickupMove 7 ⟨4000, 0, 0, 0⟩)).toBool = false ∧
      ((drawerOf 3999 r).pos.present (closeMove (drawerOf 3999 r).pos 7 ⟨4000, 0, 0, 0⟩)).toBool = true ∧
      (drawerOf 3999 r).numberInUse 700500001 = false ∧ (drawerOf 3999 r).allocate = some 0) := by
  refine ⟨meetsBooks (by decide +kernel), meetsBooks (by decide +kernel), by decide +kernel, fun r => ⟨?_, ?_, ?_⟩,
    fun r => ⟨?_, ?_, ?_, ?_⟩⟩
  · exact (by decide +kernel : ((drawerOf 4000 (trading .opened none)).pos.present (pickupMove 7 ⟨4000, 0, 0, 0⟩)).toBool = true)
  · exact numberInUse_drawerOf _ _ _
  · exact allocate_drawerOf _ _
  · exact (by decide +kernel : ((drawerOf 3999 (trading .opened none)).pos.present (pickupMove 7 ⟨4000, 0, 0, 0⟩)).toBool = false)
  · exact (by decide +kernel : ((drawerOf 3999 (trading .opened none)).pos.present
      (closeMove (drawerOf 3999 (trading .opened none)).pos 7 ⟨4000, 0, 0, 0⟩)).toBool = true)
  · exact numberInUse_drawerOf _ _ _
  · exact allocate_drawerOf _ _

theorem witness_CloseCallFlagsTheNamedTills :
    (∀ f, Ready (withBooks f) 0x07 [1, 4, 0, 0]) ∧ readCloseCall [1, 4, 0, 0] = some ⟨some 4, none⟩ ∧
    ((withTill (trading .opened none)).tills.get 7).state.trades = true ∧
    (tables.station 10).role = .till 7 2 ∧ (4 : BitVec 8).getLsbD 2 = true ∧ (tables.station 10).segment = 0 ∧
    store.admitted 10 = true ∧ (store.links.segs.get 0).up = true :=
  ⟨fun f => atStore f _ _, by decide +kernel⟩

/-! ## Safes and transfers -/

def withSafe (f : Safe) (bk : Books) : Books := { bk with safes := bk.safes.set 5 f }
def bagOf (st : BagState) (n : Nat) : Bag := ⟨st, List.replicate n 100, 100⟩
def safeOf (n : Nat) (r : Option Reservation) : Safe := ⟨.running, bagOf .active n, bagOf .empty 0, r, false⟩
def carriedPouch : Books := withDep 100 (dep .carried 700600001)

theorem witness_DropRequestReservesThePosition :
    (∀ f, Meets .dropRequest (withBooks f) 20 (beBytes 4 700600001) (.safe 5)) ∧
    readContainerNumber (beBytes 4 700600001) = some 700600001 ∧
    ((withSafe ⟨.stopped, bagOf .full 4, bagOf .full 4, none, false⟩ books).safes.get 5).state = .stopped ∧
    ((withSafe (safeOf 40 none) carriedPouch).safes.get 5).activeSide = some .a ∧
    ((withSafe (safeOf 4 (some ⟨1, 100, .a, 30⟩)) books).safes.get 5).reservation ≠ none ∧
    40 < ((withSafe (safeOf 40 none) carriedPouch).safes.get 5).bagA.pouches.length + 1 ∧
    ((withSafe (safeOf 39 none) carriedPouch).safes.get 5).bagA.pouches.length + 1 ≤ 40 ∧
    carriedPouch.findLive 700600001 = some 100 ∧ carriedPouch.findLive 700600002 = none ∧
    carriedPouch.deposits.get 100 = some (dep .carried 700600001) :=
  ⟨meetsBooks (by decide +kernel), by decide +kernel, by decide +kernel, by decide +kernel, by decide +kernel,
    by decide +kernel, by decide +kernel, findLive_withDep .., findLive_withDep .., by decide +kernel⟩

theorem witness_ReservationEndsByDropCancelOrExpiry :
    (∀ f, Meets .dropDone (withBooks f) 20 (beBytes 4 700600001) (.safe 5)) ∧
    (∀ f, Meets .dropCancel (withBooks f) 20 (beBytes 4 700600001) (.safe 5)) ∧
    (books.safes.get 5).reservation = none ∧
    ((withSafe (safeOf 3 (some ⟨700600001, 100, .a, 0⟩)) carriedPouch).safes.get 5).reservation =
      some ⟨700600001, 100, .a, 0⟩ ∧
    (⟨700600001, 100, .a, 0⟩ : Reservation).number = 700600001 ∧
    (carriedPouch.claimDrop ⟨700600001, 100, .a, 0⟩).toBool = true ∧
    (books.claimDrop ⟨700600001, 100, .a, 0⟩).toBool = false ∧ (⟨700600001, 100, .a, 1⟩ : Reservation).grant ≠ 0 :=
  ⟨meetsBooks (by decide +kernel), meetsBooks (by decide +kernel), by decide +kernel⟩

/-- R82: a pouch of two reservations, CARRIED and then IN_SAFE; a record whose number is another's. -/
theorem witness_claims :
    (carriedPouch.deposits.get 100 = some (dep .carried 700600001) ∧ (dep .carried 700600001).state ≠ .closed) ∧
    (∀ (j : Fin 512) (e : Deposit), j < 100 → carriedPouch.deposits.get j = some e →
      e.state = .closed ∨ e.number ≠ 700600001) ∧
    (∀ (i : Fin 512) (d : Deposit), carriedPouch.deposits.get i = some d → d.state = .closed ∨ d.number ≠ 2) ∧
    (withDep 100 (dep .inSafe 700600001)).deposits.get 100 = some (dep .inSafe 700600001) ∧
    (dep .inSafe 700600001).state ≠ .carried ∧ (dep .inSafe 700600001).state ≠ .closed ∧
    (dep .carried 700600001).number ≠ 2 := by
  have only : ∀ i, carriedPouch.deposits.get i = if i = 100 then some (dep .carried 700600001) else none := by
    intro i
    have e : carriedPouch.deposits = (Tab.const 512 none).set 100 (some (dep .carried 700600001)) := rfl
    rw [e, Tab.get_set, Tab.get_const]
  refine ⟨⟨by rw [only, if_pos rfl], by decide⟩, fun j e lt he => ?_, fun i d h => ?_, by decide +kernel, by decide,
    by decide, by decide⟩
  · rw [only, if_neg (Fin.ne_of_lt lt)] at he
    cases he
  · rw [only] at h
    split at h
    · cases h
      exact .inr (by decide)
    · cases h

theorem witness_SwapTestRowByRow :
    ((bagOf .active 3).pouches.length ≤ 3 ∧ (bagOf .active 3).value ≤ 500000) ∧ 3 < (bagOf .active 4).pouches.length ∧
    (bagOf .empty 0).state ≠ .full ∧ (bagOf .full 3).state = .full ∧ (bagOf .active 39).pouches.length < 40 ∧
    40 ≤ (bagOf .active 40).pouches.length ∧ (tables.safes.get 5).policy = .overfill ∧
    (tables.safes.get 4).policy = .stop := by decide +kernel

def bagsOut (side : Byte) (bag staff : Nat) : List Byte := side :: beBytes 4 bag ++ beBytes 2 staff

theorem witness_BagOutMovesTheBagToATransfer :
    (∀ f, Meets .bagOut (withBooks f) 20 (bagsOut 0 900001 2301) (.safe 5)) ∧
    readBagOut (bagsOut 0 900001 2301) = some ⟨.a, 900001, 2301⟩ ∧
    readBagOut (bagsOut 0 900001 0) = some ⟨.a, 900001, 0⟩ ∧
    (seen store 0x23 20 (bagsOut 0 900001 2301)).safeStaff 2301 = true ∧
    (seen store 0x23 20 (bagsOut 0 900001 2301)).safeStaff 0 = false ∧
    ((withSafe (safeOf 1 none) books).safes.get 5).bagA.state ≠ .empty ∧
    ((withSafe (safeOf 1 none) books).safes.get 5).bagA.pouches ≠ [] ∧ books.transfers.get 0 = none ∧
    ∀ u, books.transfers.get u = none :=
  ⟨meetsBooks (by decide +kernel), by decide +kernel⟩

def aTransfer (t : Option Timer) : Transfer := ⟨900001, 5, .a, [100], 84000, 2301, 0, t, false⟩

/-- Positions that give no bag, transfers all in use, a bag number in transfer, and both kinds of other position. -/
theorem witness_bag_refusals :
    ((safeOf 1 none).bagB.state = .empty ∧ (safeOf 1 (some ⟨1, 100, .a, 30⟩)).reservation = some ⟨1, 100, .a, 30⟩) ∧
    (∀ t, ({ books with transfers := Tab.const 32 (some (aTransfer none)) } : Books).transfers.get t ≠ none) ∧
    ({ books with transfers := books.transfers.set 0 (some (aTransfer none)) } : Books).transfers.get 0 =
      some (aTransfer none) ∧ (aTransfer none).bag = 900001 ∧
    ({ books with transfers := books.transfers.set 0 (some (aTransfer none)) } : Books).transfers.get 1 = none ∧
    ((safeOf 1 none).bag BagSide.b.other).state = .active ∧ ((safeOf 1 none).bag BagSide.a.other).state ≠ .active := by
  decide +kernel

/-- An entry that holds the id with the domain, a safe with one ACTIVE position, and a number that a bag item carries. -/
theorem witness_checks :
    ((tables.staff.get 63).id = 2302 ∧ (tables.staff.get 63).domains.getLsbD 0 = true) ∧
    ((tables.couriers.get 31).id = 5150 ∧ (tables.couriers.get 31).valid = true) ∧
    (((safeOf 1 none).bag .a).state = .active ∧ ((safeOf 1 none).bag BagSide.a.other).state ≠ .active) ∧
    (((0 : Fin 4), 5) ∈ [((0 : Fin 4), 5), (2, 1)] ∧ ∀ m, ((0 : Fin 4), m) ∈ [((0 : Fin 4), 5), (2, 1)] → m = 5) ∧
    ∀ n, ((3 : Fin 4), n) ∉ [((0 : Fin 4), 5), (2, 1)] := by
  refine ⟨by decide +kernel, by decide +kernel, by decide, ⟨by decide, fun m h => by simpa using h⟩, fun n h => ?_⟩
  simp at h

theorem witness_TransfersAndPouchesComeIn :
    (∀ f, Meets .bagIn (withBooks f) 40 (beBytes 4 900001 ++ beBytes 2 2301) .receiving) ∧
    (∀ f, Meets .pouchIn (withBooks f) 40 (beBytes 4 700600001 ++ beBytes 2 2301) .receiving) ∧
    readReceived (beBytes 4 900001 ++ beBytes 2 2301) = some ⟨900001, 2301⟩ ∧
    (seen store 0x28 40 (beBytes 4 900001 ++ beBytes 2 2301)).safeStaff 2301 = true ∧
    (seen store 0x28 40 (beBytes 4 900001 ++ beBytes 2 9)).safeStaff 9 = false ∧
    (∀ u, books.transfers.get u = none) ∧ (⟨1, 1800⟩ : Timer).remaining ≠ 0 ∧
    (aTransfer (some ⟨0, 1800⟩)).bag = 900001 ∧ (aTransfer (some ⟨0, 1800⟩)).timer = some ⟨0, 1800⟩ ∧
    carriedPouch.findLive 700600001 = some 100 ∧ carriedPouch.findLive 9 = none ∧
    carriedPouch.deposits.get 100 = some (dep .carried 700600001) ∧
    (withDep 100 (dep .inSafe 700600001)).findLive 700600001 = some 100 ∧ (dep .inSafe 1).state ≠ .carried :=
  ⟨meetsBooks (by decide +kernel), meetsBooks (by decide +kernel), by decide +kernel, by decide +kernel,
    by decide +kernel, by decide +kernel, by decide +kernel, by decide +kernel, by decide +kernel, findLive_withDep ..,
    findLive_withDep .., by decide +kernel, findLive_withDep .., by decide⟩

/-! ## Lanes -/

def inSession (idle : Nat) (bundle : List BundleEntry) (st : DepositState) : Books :=
  { withDep 140 { dep st 5 with countingStaff := some 2301 } with
    lanes := books.lanes.set 3 ⟨some ⟨140, 2301, ⟨idle, 1200⟩⟩, Tab.const 32 0, Tab.const 32 0, bundle⟩
    pos := { Positions.powerOn with uncounted := ⟨84000, 0, 0, 0⟩, accountability := ⟨84000, 0, 0, 0⟩ } }

def counts (staff : Nat) : List Byte := beBytes 2 140 ++ beBytes 2 staff

theorem witness_CountOpenOpensTheLane :
    (∀ f, Meets .countOpen (withBooks f) 30 (counts 2301) (.counter 3)) ∧
    (∀ f, Meets .countOpen (withBooks f) 30 (counts 9) (.counter 3)) ∧
    readDepositStaff (counts 2301) = some ⟨140, 2301⟩ ∧
    ((inSession 1 [] .counting).lanes.get 3).session ≠ none ∧ (books.lanes.get 3).session = none ∧
    tables.staffPasses 9 0 (·.counter) = false ∧ tables.staffPasses 2301 0 (·.counter) = true ∧
    books.deposits.get 140 = none ∧ (withDep 140 (dep .closed 5)).deposits.get 140 = some (dep .closed 5) ∧
    (dep .carried 5).state ≠ .awaitingCount ∧ (dep .awaitingCount 5).state = .awaitingCount :=
  ⟨meetsBooks (by decide +kernel), meetsBooks (by decide +kernel), by decide +kernel⟩

/-- Two NOTE records of denomination 0, the second one ending its bundle. -/
def twoNotes : List Byte := [2, 0x00, 0, 0, 6, 0x20, 0, 0, 4]

/-- A COIN record of a NOTE denomination. -/
def wrongForm : List Byte := [1, 0x40, 0, 0, 6]

theorem witness_CountDataAndItsRecords :
    (∀ f, Meets .countData (withBooks f) 30 twoNotes (.counter 3)) ∧
    (∀ f, Meets .countData (withBooks f) 30 wrongForm (.counter 3)) ∧
    readCountData twoNotes = some [⟨.note, false, 0, 6⟩, ⟨.note, true, 0, 4⟩] ∧
    readCountData wrongForm = some [⟨.coin, false, 0, 6⟩] ∧
    (walkRecords tables 1 ⟨Tab.const 32 0, Tab.const 32 0, [], 0⟩ [⟨.note, false, 0, 6⟩, ⟨.note, true, 0, 4⟩]).toBool
      = true ∧
    (walkRecords tables 1 ⟨Tab.const 32 0, Tab.const 32 0, [], 0⟩ [⟨.coin, false, 0, 6⟩]).toBool = false ∧
    (tables.takeRecord ⟨.note, true, 0, 4⟩).toOption = some ⟨.note, 0, 4⟩ ∧
    64 < (List.replicate 64 (⟨.note, 0, 4⟩ : BundleEntry)).length + 1 ∧
    (List.replicate 63 (⟨.note, 0, 4⟩ : BundleEntry)).length + 1 ≤ 64 ∧ (books.lanes.get 3).session = none ∧
    ((inSession 1 [] .counting).lanes.get 3).session = some ⟨140, 2301, ⟨1, 1200⟩⟩ ∧
    (walkRecords tables 1 ⟨Tab.const 32 0, Tab.const 32 0, [], 0⟩ [⟨.note, false, 0, 6⟩]).toBool = true :=
  ⟨meetsBooks (by decide +kernel), meetsBooks (by decide +kernel), by decide +kernel⟩

/-- The checks of a record: each reason, and what passes; the commit at its limit and beyond it. -/
theorem witness_count_records :
    (oddTables.denoms.get 31).valid = false ∧ (oddTables.rate (oddTables.denoms.get 5).currency).enabled = false ∧
    (tables.denoms.get 3).form = .coin ∧ (tables.denoms.get 0).form = .note ∧
    (caseTables.denoms.get 12).calibrated = false ∧ (tables.denoms.get 3).calibrated = true ∧
    (tables.denoms.get 3).zeroRead < (tables.denoms.get 3).refRead ∧
    (tables.takeRecord ⟨.weigh, true, 3, 23300⟩).toOption = some ⟨.coin, 3, 281⟩ ∧
    (caseTables.takeRecord ⟨.weigh, true, 12, 23300⟩).toBool = false ∧
    (tables.takeRecord ⟨.suspect, true, 3, 1⟩).toBool = false ∧
    ((⟨pieces 0 9999995, noPieces, [], 0⟩ : Working).take tables ⟨.note, true, 0, 4⟩).toBool = true ∧
    ((⟨pieces 0 9999996, noPieces, [], 0⟩ : Working).take tables ⟨.note, true, 0, 4⟩).toBool = false := by decide +kernel

theorem witness_RecountAbortAndIdleExpiry :
    (∀ f, Meets .countRecount (withBooks f) 30 [] (.counter 3)) ∧
    (∀ f, Meets .countAbort (withBooks f) 30 [] (.counter 3)) ∧
    ((inSession 0 [] .counting).lanes.get 3).session = some ⟨140, 2301, ⟨0, 1200⟩⟩ ∧
    (inSession 0 [] .counting).deposits.get 140 = some { dep .counting 5 with countingStaff := some 2301 } ∧
    ((inSession 1 [] .counting).lanes.get 3).session = some ⟨140, 2301, ⟨1, 1200⟩⟩ ∧
    (books.lanes.get 3).session = none :=
  ⟨meetsBooks (by decide +kernel), meetsBooks (by decide +kernel), by decide +kernel⟩

/-- A BALANCED close of nothing declared, a SHORT one, and one in a bank whose Denomination entry is not valid. -/
theorem witness_CountCloseDecidesTheDeposit :
    (∀ f, Meets .countClose (withBooks f) 30 [] (.counter 3)) ∧
    (books.lanes.get 3).session = none ∧ ((inSession 1 [⟨.note, 0, 4⟩] .counting).lanes.get 3).bundle ≠ [] ∧
    ((inSession 1 [] .counting).lanes.get 3).bundle = [] ∧
    (tables.closeValue 0 ⟨84000, 0, 0, 0⟩ (Tab.const 32 0) (Tab.const 32 0)).toOption =
      some ⟨⟨noAmounts, noAmounts, .short, -84000⟩, 0, false⟩ ∧
    (tables.closeValue 0 ⟨0, 0, 0, 0⟩ (Tab.const 32 0) (Tab.const 32 0)).toOption =
      some ⟨⟨noAmounts, noAmounts, .balanced, 0⟩, 0, false⟩ ∧
    (tables.closeValue 0 ⟨0, 0, 0, 0⟩ ((Tab.const 32 0).set 31 1) (Tab.const 32 0)).toBool = false ∧
    ((inSession 1 [] .counting).pos.present (countCloseMove ⟨84000, 0, 0, 0⟩ noAmounts noAmounts)).toBool = true ∧
    (books.pos.present (countCloseMove ⟨84000, 0, 0, 0⟩ noAmounts noAmounts)).toBool = false :=
  ⟨meetsBooks (by decide +kernel), by decide +kernel⟩

theorem witness_ReleaseClosesADiscrepantDeposit :
    (∀ f, Meets .release (withBooks f) 50 (counts 2302) .supervisor) ∧
    (∀ f, Meets .release (withBooks f) 50 (counts 9) .supervisor) ∧
    tables.staffPasses 9 0 (·.supervisor) = false ∧ tables.staffPasses 2302 0 (·.supervisor) = true ∧
    books.deposits.get 140 = none ∧
    (inSession 1 [] .discrepant).deposits.get 140 = some { dep .discrepant 5 with countingStaff := some 2301 } ∧
    (some 2301 : Option Nat) ≠ some 2302 ∧ (dep .carried 5).state ≠ .discrepant ∧
    ({ dep .discrepant 5 with result := some ⟨noAmounts, noAmounts, .short, -84000⟩ } : Deposit).result ≠ none :=
  ⟨meetsBooks (by decide +kernel), meetsBooks (by decide +kernel), by decide +kernel⟩

/-! ## Consignments -/

def withConsign (k : Fin 8) (c : Consignment) (bk : Books) : Books := { bk with consigns := bk.consigns.set k c }
def aBag : ConsignLine := ⟨.bag 900010 .reserve ⟨300000, 0, 0, 0⟩, false⟩
def aDeposit : ConsignLine := ⟨.deposit 215, true⟩
def waiting : Books := withDep 215 (dep .awaitingCount 700800215)
def building (ls : List ConsignLine) : Consignment := ⟨.building, some 0, ls⟩
def ofState (st : ConsignState) (ls : List ConsignLine) : Consignment := ⟨st, some 0, ls⟩

/-- The cash of the bag loaded on consignment 0. -/
def loadedBag : Positions :=
  { Positions.powerOn with
    loaded := Positions.powerOn.loaded.set 0 ⟨300000, 0, 0, 0⟩, accountability := ⟨300000, 0, 0, 0⟩ }

def loads (v : Nat) : List Byte := [0, 0] ++ beBytes 4 900010 ++ baseList v

theorem witness_ConsignmentsAreBuiltAndUnloaded :
    (∀ code ps f, Ready (withBooks f) code ps) ∧
    (readIndex 2 [1] = some 1 ∧ (books.consigns.get 0).state = .free) ∧
    (readConsignLoad (loads 300000) = some ⟨0, .reserve, 900010, [(0, 300000)]⟩ ∧
      ((withConsign 0 (building (List.replicate 47 aDeposit)) books).consigns.get 0).state = .building ∧
      ((withConsign 0 (building (List.replicate 47 aDeposit)) books).consigns.get 0).items.length < 48 ∧
      tables.currenciesEnabled [(0, 300000)] = true ∧ waiting.bagItemCarries 900010 = false ∧
      ((reserveOf 300000 books).pos.present (loadMove 0 .reserve ⟨300000, 0, 0, 0⟩)).toBool = true) ∧
    (readConsignAdd [0, 0, 215] = some ⟨0, 215⟩ ∧ waiting.deposits.get 215 = some (dep .awaitingCount 700800215)) ∧
    (readConsignRemove (0 :: 0 :: beBytes 4 900010) = some ⟨0, .bag 900010⟩ ∧
      ([aDeposit, aBag].find? fun l => (ItemName.bag 900010).names l.item) = some aBag ∧
      (loadedBag.present (unloadMove 0 [(.reserve, ⟨300000, 0, 0, 0⟩)])).toBool = true) ∧
    (readConsignRemove (0 :: 1 :: beBytes 4 215) = some ⟨0, .deposit 215⟩ ∧
      ([aDeposit, aBag].find? fun l => (ItemName.deposit 215).names l.item) = some aDeposit) ∧
    (ofState .atDock []).state = .atDock ∧ (ofState .ready [aBag]).bagItems = [(.reserve, ⟨300000, 0, 0, 0⟩)] :=
  ⟨fun code ps f => atStore f code ps, by decide +kernel⟩

theorem witness_ConsignmentsAreBuiltAndUnloaded_ready :
    (∀ code ps f, Ready (withBooks f) code ps) ∧ readIndex 8 [0] = some 0 ∧ readIndex 8 [8] = none ∧
    (building [aBag]).items ≠ [] ∧ (building []).items = [] ∧ (ofState .ready [aBag]).state ≠ .building ∧
    readConsignLoad (loads 1) = some ⟨0, .reserve, 900010, [(0, 1)]⟩ ∧ readConsignAdd [0, 0, 215] = some ⟨0, 215⟩ :=
  ⟨fun code ps f => atStore f code ps, by decide +kernel⟩

/-- No consignment FREE; 48 items; a number in use; a source or a reserve that cannot take the movement; a deposit that is
not there, CLOSED or CARRIED; an item that is not on the consignment; and an item taken from between others. -/
theorem witness_consignment_refusals :
    (∀ k, (({ books with consigns := Tab.const 8 (building []) } : Books).consigns.get k |>.state) ≠ .free) ∧
    48 ≤ (building (List.replicate 48 aDeposit)).items.length ∧
    readConsignLoad ([0, 0] ++ beBytes 4 900010 ++ disabledList) = some ⟨0, .reserve, 900010, [(2, 1)]⟩ ∧
    ({ books with consigns := books.consigns.set 1 (building [aBag]) } : Books).bagItemCarries 900010 = true ∧
    (books.pos.present (loadMove 0 .reserve ⟨300000, 0, 0, 0⟩)).toBool = false ∧
    books.deposits.get 215 = none ∧ (withDep 215 (dep .closed 1)).deposits.get 215 = some (dep .closed 1) ∧
    (withDep 215 (dep .carried 1)).deposits.get 215 = some (dep .carried 1) ∧
    (books.consigns.get 0).state = .free ∧
    (∀ l ∈ (building [aDeposit]).items, ∀ src a, l.item ≠ .bag 900010 src a) ∧
    (∀ l ∈ (building [aBag]).items, l.item ≠ .deposit 215) ∧
    (({ loadedBag with reserve := ⟨999999999999, 0, 0, 0⟩ } : Positions).present
      (unloadMove 0 [(.reserve, ⟨300000, 0, 0, 0⟩)])).toBool = false ∧
    (building [aDeposit, aBag]).items = [aDeposit] ++ aBag :: [] ∧ aBag ∉ [aDeposit] :=
  ⟨by simp [building], by decide, by decide +kernel, by decide +kernel, by decide +kernel, by decide +kernel,
    by decide +kernel, by decide +kernel, by decide +kernel,
    by simp [building, aDeposit], by simp [building, aBag], by decide +kernel, rfl, by decide⟩

/-! ## Docks -/

def withDock (h : Handover) (bk : Books) : Books := { bk with docks := bk.docks.set 0 h }
def aVisit : Visit := ⟨60, 0, 5150, 0x40⟩
def atState (st : DockState) : Handover := { Handover.powerOn with state := st, visit := some aVisit }

theorem witness_ArrivalQualification :
    (∀ f, Meets .arriveBeacon (withBooks f) 60 (beBytes 2 5150) (.dock 0)) ∧
    readId (beBytes 2 5150) = some 5150 ∧ (books.docks.get 0).state = .idle ∧
    tables.courierValid 5150 = true ∧ tables.courierValid 5151 = false ∧ store.clock.unset = false ∧
    State.reset.clock.unset = true ∧
    ((tables.schedule.get 7).used = true ∧ (tables.schedule.get 7).start ≤ 34800 ∧ 34800 < (tables.schedule.get 7).stop) ∧
    (∀ i : Fin 16, i.val / 8 = 1 → (tables.schedule.get i).used = false) ∧
    ((atState .qualifying).visit = some aVisit ∧ tables.dockModes.get 0 = .auto) ∧ aVisit.courier = 5150 ∧
    ({ aVisit with courier := 5151 } : Visit).courier ≠ 5150 ∧
    (∀ st ∈ [DockState.arrived, .custody, .exchange, .released, .departing],
      ((withDock (atState st) books).docks.get 0).state = st) ∧
    (⟨34800, 0, 1⟩ : Qualification).qual = 0 ∧ (⟨34800, 0, 1⟩ : Qualification).gap ≠ 0 ∧
    (⟨34800, 1, 0⟩ : Qualification).gap = 0 ∧ (⟨34800, 1, 0⟩ : Qualification).qual ≠ 0 :=
  ⟨meetsBooks (by decide +kernel), by decide +kernel⟩

/-- R134, R141: a beacon gap of 2 seconds under a qualification of 5 runs out first, and the qualification never completes. -/
theorem test_gap_runs_out_first :
    (List.range 5).foldl (fun q _ => q.tick) (⟨34800, 5, 2⟩ : Qualification) = ⟨34800, 3, 0⟩ ∧
      (List.range 5).foldl (fun q _ => q.tick) (⟨34800, 2, 2⟩ : Qualification) = ⟨34800, 0, 0⟩ := by decide

theorem witness_OpenHandoverAndUnlock :
    (∀ f, Meets .arriveBeacon (withBooks f) 60 (beBytes 2 5150) (.dock 0)) ∧
    stationRow (.arriveBeacon 0 (bodyOf 0x40 60 (beBytes 2 5150))) =
      some (.arriveBeacon, 0, bodyOf 0x40 60 (beBytes 2 5150)) ∧
    OwnedKind.arriveBeacon.payloadReads (beBytes 2 5150) = true ∧
    ((withDock { Handover.powerOn with state := .locked } books).docks.get 0).state = .locked ∧
    (∀ code ps f, Ready (withBooks f) code ps) ∧ readIndex 2 [0] = some 0 ∧
    ((withDock (atState .arrived) books).docks.get 0).visit = some aVisit ∧ (books.docks.get 0).state ≠ .arrived ∧
    ((withDock { Handover.powerOn with state := .lockout, lockout := some 0, lockouts := 2 } books).docks.get 0).lockout
      = some 0 ∧
    (books.docks.get 0).state ≠ .lockout ∧ (books.docks.get 0).state ≠ .locked :=
  ⟨meetsBooks (by decide +kernel), by decide +kernel, by decide +kernel, by decide +kernel,
    fun code ps f => atStore f code ps, by decide +kernel⟩

theorem witness_CustodyPairing :
    (∀ f, Meets .custodyPresent (withBooks f) 60 (beBytes 2 2301) (.dock 0)) ∧
    (∀ f, Meets .custodyPresent (withBooks f) 60 (beBytes 2 9) (.dock 0)) ∧ readId (beBytes 2 2301) = some 2301 ∧
    tables.staffPasses 2301 0 (·.keyHolder) = true ∧ tables.staffPasses 9 0 (·.keyHolder) = false ∧
    ((withDock (atState .custody) books).docks.get 0).holders = [] ∧
    ({ atState .custody with holders := [2302], pairing := some 0 } : Handover).holders = [2302] ∧
    ((withConsign 7 (ofState .ready [aBag]) books).consigns.get 7).state = .ready :=
  ⟨meetsBooks (by decide +kernel), meetsBooks (by decide +kernel), by decide +kernel⟩

def exchange (ls : List ConsignLine) (deliveries : List (Fin 512)) : Books :=
  withConsign 2 (ofState .atDock ls)
    (withDock { atState .exchange with atDock := [2], holders := [2301, 2302], deliveries := deliveries } waiting)

theorem witness_ItemsGoOutAndIn :
    (∀ f, Meets .itemOut (withBooks f) 60 (beBytes 4 900010) (.dock 0)) ∧
    (∀ f, Meets .itemIn (withBooks f) 60 (pouchOf 610001 150000) (.dock 0)) ∧
    ((exchange [aBag] []).docks.get 0).state = .exchange ∧ ((exchange [aBag] []).docks.get 0).visit = some aVisit ∧
    (∀ k ∈ ((exchange [aDeposit] []).docks.get 0).atDock, ∀ l ∈ ((exchange [aDeposit] []).consigns.get k).items,
      (exchange [aDeposit] []).itemNumber l.item ≠ 900010) ∧
    (exchange [aDeposit, aBag] []).findItem [2] 900010 = some (2, aBag) ∧
    (exchange [aDeposit, aBag] []).findItem [2] 700800215 = some (2, aDeposit) ∧ aBag.scanned = false ∧
    aDeposit.scanned = true ∧ 16 ≤ ((exchange [] (List.replicate 16 0)).docks.get 0).deliveries.length ∧
    ((exchange [] (List.replicate 15 0)).docks.get 0).deliveries.length < 16 ∧
    (books.pos.present (deliveryMove ⟨150000, 0, 0, 0⟩)).toBool = true ∧ tables.currenciesEnabled [(0, 150000)] = true :=
  ⟨meetsBooks (by decide +kernel), meetsBooks (by decide +kernel), by decide +kernel⟩

/-- Items at the dock whose numbers differ; a frame before the handover, a second key holder and a disabled currency. -/
theorem witness_dock_refusals :
    (∀ j m, j ∈ [(2 : Fin 8)] → m ∈ ((exchange [aDeposit, aBag] []).consigns.get j).items →
      (exchange [aDeposit, aBag] []).itemNumber m.item = 900010 → j = 2 ∧ m = aBag) ∧
    (exchange [aDeposit, aBag] []).deposits.get 215 = some (dep .awaitingCount 700800215) ∧
    (∀ f, Meets .itemIn (withBooks f) 60 (beBytes 4 9 ++ disabledList) (.dock 0)) ∧
    ((withDock (atState .arrived) books).docks.get 0).state ≠ .exchange ∧
    ((withDock (atState .arrived) books).docks.get 0).state ≠ .custody ∧
    ((withDock (atState .arrived) books).docks.get 0).state ≠ .lockout ∧
    ((withDock (atState .arrived) books).docks.get 0).state ≠ .locked := by
  refine ⟨fun j m hj hm hn => ?_, by decide +kernel, meetsBooks (by decide +kernel), by decide +kernel⟩
  obtain rfl : j = 2 := by simpa using hj
  have e : ((exchange [aDeposit, aBag] []).consigns.get 2).items = [aDeposit, aBag] := by decide +kernel
  rw [e] at hm
  have two : m = aDeposit ∨ m = aBag := by simpa using hm
  rcases two with rfl | rfl
  · exact absurd hn (by decide +kernel)
  · exact ⟨rfl, rfl⟩

theorem witness_HandoverEndDeparts :
    (∀ f, Meets .handoverEnd (withBooks f) 60 [] (.dock 0)) ∧
    (((exchange [aBag] []).docks.get 0).atDock.map fun k =>
      (((exchange [aBag] []).consigns.get k).items.filter fun l => !l.scanned).length).sum = 1 ∧
    (((exchange [aDeposit] []).docks.get 0).atDock.map fun k =>
      (((exchange [aDeposit] []).consigns.get k).items.filter fun l => !l.scanned).length).sum = 0 ∧
    (({ Positions.powerOn with
        uncounted := ⟨84000, 0, 0, 0⟩, accountability := ⟨84000, 0, 0, 0⟩ } : Positions).present
      (departureMove Positions.powerOn [2] [⟨84000, 0, 0, 0⟩])).toBool = true ∧
    (Positions.powerOn.present (departureMove Positions.powerOn [2] [⟨84000, 0, 0, 0⟩])).toBool = false :=
  ⟨meetsBooks (by decide +kernel), by decide +kernel⟩

theorem witness_DepartureAndHandoverTimer :
    (∀ f, Meets .departBeacon (withBooks f) 60 (beBytes 2 5150) (.dock 0)) ∧ readId (beBytes 2 5150) = some aVisit.courier ∧
    ((withDock (atState .released) books).docks.get 0).state = .released ∧
    ((withDock { atState .departing with qualify := some ⟨34800, 0, 0⟩ } books).docks.get 0).qualify =
      some ⟨34800, 0, 0⟩ ∧
    ((withDock { atState .arrived with limit := some 0 } books).docks.get 0).limit = some 0 ∧
    ((withDock (atState .custody) books).docks.get 0).state ≠ .released ∧
    ((withDock (atState .custody) books).docks.get 0).state ≠ .departing ∧
    ({ aVisit with courier := 5151 } : Visit).courier ≠ 5150 ∧ (⟨34800, 1, 0⟩ : Qualification).gap = 0 :=
  ⟨meetsBooks (by decide +kernel), by decide +kernel⟩

/-! ## The laws of the register and of the docks -/

/-- Deposit 140 in the session of lane 3, and dock 0 in EXCHANGE with a bag on consignment 2. -/
def inCustody : Books :=
  { books with
    deposits := (Tab.const 512 none).set 140
      (some { dep .counting 5 with holder := some (.lane 3), countingStaff := some 2301, carry := none })
    lanes := (Tab.const 6 Lane.idle).set 3 { Lane.idle with session := some ⟨140, 2301, ⟨1, 1200⟩⟩ }
    consigns := (Tab.const 8 Consignment.free).set 2 (ofState .atDock [aBag])
    docks := (Tab.const 2 Handover.powerOn).set 0
      { atState .exchange with atDock := [2], holders := [2301, 2302], limit := some 1 }
    pos := { Positions.powerOn with
      uncounted := ⟨84000, 0, 0, 0⟩, loaded := Positions.powerOn.loaded.set 2 ⟨300000, 0, 0, 0⟩
      accountability := ⟨384000, 0, 0, 0⟩ } }

theorem witness_EveryStepKeepsUnitLaws_docks : inCustody.DocksLawful := by
  refine ⟨?_, ?_, ?_⟩
  · intro d
    have e : inCustody.docks.get d = if d = 0 then
        { atState .exchange with atDock := [2], holders := [2301, 2302], limit := some 1 } else Handover.powerOn := by
      rw [inCustody, Tab.get_set, Tab.get_const]
    rw [e]
    split
    · exact ⟨by decide, by decide, fun _ => ⟨2301, 2302, by decide, rfl⟩, by decide⟩
    · exact ⟨by decide, by decide, fun h => (by rcases h with h | h | h <;> cases h), by decide⟩
  · intro k
    have e : inCustody.consigns.get k = if k = 2 then ofState .atDock [aBag] else Consignment.free := by
      rw [inCustody, Tab.get_set, Tab.get_const]
    rw [e]
    unfold Consignment.Lawful
    split <;> decide
  · decide +kernel

theorem inCustody_deposit (i : Fin 512) : inCustody.deposits.get i = if i = 140 then
    some { dep .counting 5 with holder := some (.lane 3), countingStaff := some 2301, carry := none } else none := by
  rw [inCustody, Tab.get_set, Tab.get_const]

theorem inCustody_only {i : Fin 512} {d : Deposit} (h : inCustody.deposits.get i = some d) : i = 140 ∧
    d = { dep .counting 5 with holder := some (.lane 3), countingStaff := some 2301, carry := none } := by
  rw [inCustody_deposit] at h
  split at h
  · cases h
    exact ⟨‹_›, rfl⟩
  · cases h

theorem inCustody_held (h : Holder) : inCustody.heldBy h = if h = .lane 3 then [140] else [] := by
  cases h with
  | safe i side => rw [if_neg (by simp)]; cases side <;> (revert i; decide +kernel)
  | transfer t => rw [if_neg (by simp)]; revert t; decide +kernel
  | lane l => revert l; decide +kernel
  | consignment k => rw [if_neg (by simp)]; revert k; decide +kernel

theorem witness_EveryStepKeepsRegisterLaws : inCustody.RegisterLawful := by
  refine ⟨?_, ?_, ?_, ?_, by decide +kernel, ?_, by decide, ?_, ?_, by decide +kernel⟩
  · intro i d hd
    obtain ⟨rfl, rfl⟩ := inCustody_only hd
    refine ⟨by unfold Deposit.Lawful; decide, ?_⟩
    intro h hh
    cases hh
    rw [inCustody_held]
    exact ⟨rfl, by decide⟩
  · intro h
    rw [inCustody_held]
    split
    · rename_i e
      subst e
      refine ⟨by decide, fun i hi => ?_⟩
      rw [List.mem_singleton.1 hi]
      exact ⟨_, by rw [inCustody_deposit, if_pos rfl], rfl⟩
    · exact ⟨by decide, fun i hi => by simp at hi⟩
  · intro l ss d hs hd
    obtain ⟨-, rfl⟩ := inCustody_only hd
    rw [inCustody, Tab.get_set, Tab.get_const] at hs
    split at hs <;> cases hs
    rfl
  · intro i j d e hi hj _ _ _
    rw [(inCustody_only hi).1, (inCustody_only hj).1]
  · intro i d hd _
    obtain ⟨-, rfl⟩ := inCustody_only hd
    decide +kernel
  · intro i
    constructor
    · intro h
      exact absurd h (by simp [inCustody, books, store, State.reset, Books.powerOn])
    · rintro ⟨d, hd, closed⟩
      obtain ⟨-, rfl⟩ := inCustody_only hd
      cases closed
  · decide +kernel

/-! ## Ports and the uplink -/

/-- `n` forwards on the uplink queue. -/
def forwards (n : Nat) (s : State) : State :=
  { s with links := { s.links with uplink := List.replicate n ⟨.forward, ⟨0, 10, 0x11, []⟩⟩ } }

def waitingAt (p : Fin 4) (s : State) : State := s.setSeg p fun g => { g with waiting := true }
def grantedAt (p : Fin 4) (s : State) : State := s.setSeg p fun g => { g with granted := true }
def queueAt (n : Nat) (s : State) : State := s.setSeg 0 fun g => { g with queue := List.replicate n ⟨10, 0, 0xF0, []⟩ }

theorem witness_LinkStateAndFramesSent :
    store.links.uport.up = true ∧ (store.links.segs.get 0).up = true ∧ (State.reset.links.segs.get 0).up = false ∧
    State.reset.links.uport.up = false ∧
    ((queueAt 2 store).links.segs.get 0).queue = [⟨10, 0, 0xF0, []⟩, ⟨10, 0, 0xF0, []⟩] ∧
    (forwards 1 store).links.uplink = [⟨.forward, ⟨0, 10, 0x11, []⟩⟩] := by decide +kernel

/-- Segment headers: 15 frames held and 55 forwards leave room; 16 held, 56 forwards or a waiting port do not. -/
theorem witness_segment_headers :
    (forwards 55 (queueAt 15 store)).switchPort (.s 0) = forwards 55 (queueAt 15 store) ∧
    (forwards 55 (queueAt 15 store)).commonInUse < 56 ∧
    ((queueAt 15 store).links.segs.get 0).queue.length + (queueAt 15 store).segReserved 0 < 16 ∧
    16 ≤ ((queueAt 16 store).links.segs.get 0).queue.length + (queueAt 16 store).segReserved 0 ∧
    56 ≤ (forwards 56 store).commonInUse ∧ ((grantedAt 0 store).links.segs.get 0).granted = true ∧
    ((waitingAt 3 store).links.segs.get 3).waiting = true ∧ ∀ q, (store.links.segs.get q).waiting = false :=
  ⟨rfl, by decide +kernel⟩

/-- 56 forwards and 8 replies: no slot of either kind is free. -/
def noSlots : State :=
  { store with links := { store.links with
      uplink := List.replicate 56 ⟨.forward, ⟨0, 10, 0x11, []⟩⟩ ++ List.replicate 8 ⟨.reply, ⟨0, 0, 0xF4, []⟩⟩ } }

theorem witness_uplink_headers :
    store.switchPort .u = store ∧ store.links.uport.hand = none ∧ store.slotFree = true ∧ noSlots.slotFree = false ∧
    (tables.station 9).role = .none ∧ (tables.station 10).role ≠ .none ∧ (tables.station 10).segment = 0 :=
  ⟨rfl, by decide +kernel⟩

theorem witness_DamagedFrameIsDroppedAndCounted :
    ((hearing store 1 10 []).links.segs.get 0).hand = some (handOf 1 10 []) ∧
    receiveOk (handOf 1 10 []).hdr ⟨[], 0⟩ = false ∧
    segmentRow (.announce 0 ⟨[], 0⟩) = some (.owned .announce, 0, ⟨[], 0⟩) ∧ kindClass 1 = .owned .announce ∧
    segmentRow (.passFrame 0 ⟨[], 0⟩) = some (.pass, 0, ⟨[], 0⟩) ∧ kindClass 0x50 = .pass ∧
    segmentRow (.outboundKindStationFrame 0 ⟨[], 0⟩) = some (.outbound, 0, ⟨[], 0⟩) ∧ kindClass 0xF0 = .outbound := by
  decide +kernel

theorem received {s : State} {k : Byte} {src : Byte} {bs : List Byte} {c : KindClass}
    (h : (kindClass k == c && receiveOk (handOf k src bs).hdr (bodyOf k src bs)) = true) :
    (hearing s k src bs).Received c 0 (bodyOf k src bs) (seen s k src bs) := by
  simp only [Bool.and_eq_true, beq_iff_eq] at h
  exact ⟨_, by simp [hearing, State.setSeg, Quad.set, Quad.get], h.1, h.2, rfl⟩

/-- One frame for each of the Classifier's refusals: of its six steps on an owned kind, of a PASS kind without the
permission, and of an OUTBOUND kind. -/
theorem witness_RefusedFrameChangesNoRecord :
    (hearing store 1 255 []).Received (.owned .announce) 0 (bodyOf 1 255 []) (seen store 1 255 []) ∧
    ((hearing store 1 9 []).Received (.owned .announce) 0 (bodyOf 1 9 []) (seen store 1 9 []) ∧
      (seen store 1 9 []).entry.role = .none) ∧
    ((hearing store 0x11 20 []).Received (.owned .tillTender) 0 (bodyOf 0x11 20 []) (seen store 0x11 20 []) ∧
      (seen store 0x11 20 []).entry.role.maySend .tillTender = false ∧ store.admitted 20 = true ∧
      (seen store 0x11 20 []).entry.segment = 0) ∧
    ((hearing store 0x11 10 []).Received (.owned .tillTender) 0 (bodyOf 0x11 10 []) (seen store 0x11 10 []) ∧
      (seen store 0x11 10 []).entry.role.maySend .tillTender = true ∧
      OwnedKind.tillTender.payloadReads (bodyOf 0x11 10 []).payload = false) ∧
    ((hearing store 0x50 10 []).Received .pass 0 (bodyOf 0x50 10 []) (seen store 0x50 10 []) ∧
      (seen store 0x50 10 []).entry.pass = false) ∧
    (hearing store 0xF0 10 []).Received .outbound 0 (bodyOf 0xF0 10 []) (seen store 0xF0 10 []) ∧
    State.reset.admitted 20 = false ∧
    segmentRow (.tillTender 0 (bodyOf 0x11 20 [])) = some (.owned .tillTender, 0, bodyOf 0x11 20 []) ∧
    (tables.station 20).segment ≠ 1 :=
  ⟨received (by decide +kernel), ⟨received (by decide +kernel), by decide +kernel⟩,
    ⟨received (by decide +kernel), by decide +kernel⟩, ⟨received (by decide +kernel), by decide +kernel⟩,
    ⟨received (by decide +kernel), by decide +kernel⟩, received (by decide +kernel), by decide +kernel⟩

theorem witness_PassAndOutboundFrames :
    (hearing store 0x50 40 [1]).Received .pass 0 (bodyOf 0x50 40 [1]) (seen store 0x50 40 [1]) ∧
    (hearing store 0xF0 40 [1]).Received .outbound 0 (bodyOf 0xF0 40 [1]) (seen store 0xF0 40 [1]) ∧
    (seen store 0x50 40 [1]).entry.pass = true ∧ (seen store 0x50 40 [1]).entry.role ≠ .none ∧
    (seen store 0x50 40 [1]).entry.segment = 0 ∧ store.admitted 40 = true :=
  ⟨received (by decide +kernel), received (by decide +kernel), by decide +kernel⟩

def upHand (dst k : Byte) (bs : List Byte) (room : Option (Fin 4)) : UpHand :=
  ⟨⟨dst, 0, k, BitVec.ofNat 16 bs.length⟩, room⟩
def upBody (dst k : Byte) (bs : List Byte) : FrameBody := ⟨bs, crc16 (crcCover dst 0 k bs.length bs)⟩
def upHearing (s : State) (h : UpHand) : State := s.setUport fun g => { g with hand := some h }

/-- A damaged frame in hand at U, of each destination. -/
theorem witness_damaged_at_U :
    (upHearing store (upHand 10 0x60 [] (some 0))).links.uport.hand = some (upHand 10 0x60 [] (some 0)) ∧
    receiveOk (upHand 10 0x60 [] (some 0)).hdr ⟨[], 0⟩ = false ∧
    receiveOk (upHand 0 0x70 [] none).hdr ⟨[], 0⟩ = false ∧
    uplinkRow 10 ⟨[], 0⟩ (.downstreamFrame ⟨[], 0⟩) ∧ uplinkRow 255 ⟨[], 0⟩ (.destination255Frame ⟨[], 0⟩) ∧
    uplinkRow 0 ⟨[], 0⟩ (.managementFrame ⟨[], 0⟩) ∧
    uplinkRow 0 ⟨[0, 7, 0x1E, 0, 0], 0⟩ (.readStatus ⟨[0, 7, 0x1E, 0, 0], 0⟩) :=
  ⟨rfl, by decide +kernel, by decide +kernel, ⟨rfl, by decide, by decide⟩, ⟨rfl, rfl⟩, ⟨rfl, rfl⟩, ⟨rfl, rfl, by decide⟩⟩

theorem witness_DownstreamFrames :
    receiveOk (upHand 10 0x60 [1, 2] (some 0)).hdr (upBody 10 0x60 [1, 2]) = true ∧
    receiveOk (upHand 255 0x60 [1, 2] none).hdr (upBody 255 0x60 [1, 2]) = true ∧ store.admitted 10 = true ∧
    State.reset.admitted 10 = false ∧ (store.links.segs.get 0).up = true ∧
    (upHand 10 0x60 [1, 2] (some 0)).room = some 0 := by decide +kernel

/-- The state of the congestion example (section 8.5) after the first forward has left: the pointer names S2, and S0, S1
and S3 wait. -/
def congested : State :=
  let s := waitingAt 3 (waitingAt 1 (waitingAt 0 (forwards 55 store)))
  { s with links := { s.links with pointer := 2 } }

theorem witness_FreedSlotsGoToWaitersInOrder :
    congested.commonInUse < 56 ∧ (congested.links.segs.get 3).waiting = true ∧
    (congested.links.segs.get 2).waiting = false ∧ (3 : Fin 4).val = (congested.links.pointer.val + 1) % 4 ∧
    congested.links.waits = [] ∧
    (∀ w ∈ [WaitItem.reply ⟨7, 0x19, none, []⟩ (.fence true), .reply ⟨7, 0x18, none, []⟩ .activate, .notice 3],
      (store.addWait w).links.waits = [w] ∧ (store.addWait w).slotFree = true) ∧
    store.slotFree = true ∧ noSlots.slotFree = false := by decide +kernel

/-- S3 is granted the slot, and the pointer goes to S0 (section 8.5). -/
theorem test_congestion_example :
    ∃ t, exec .commonSlotGrant congested = .next t ∧ (t.links.segs.get 3).granted = true ∧
      (t.links.segs.get 3).waiting = false ∧ (t.links.segs.get 0).waiting = true ∧ t.links.pointer = 0 :=
  ⟨_, rfl, by decide +kernel⟩

/-! ## Admission, faults, notices -/

theorem witness_StationsJoin :
    Meets .announce store 40 [] .receiving ∧ Meets .ready store 40 [] .receiving ∧ (Role.receiving ≠ .none) ∧
    ({ store with admission := store.admission.set 40 (.welcomed 0 0) } : State).admission.get 40 = .welcomed 0 0 ∧
    store.admission.get 40 = .admitted 0 :=
  ⟨meets (by decide +kernel), meets (by decide +kernel), by decide +kernel⟩

def eightFaults : Recorder :=
  ⟨Tab.tabulate fun i => some ⟨BitVec.ofNat 8 (100 + i.val), .u, 1, .malformed, 0, 0⟩, true, some 0⟩

theorem witness_FaultReportsAndClearing :
    twoFaults.OneEach ∧ eightFaults.OneEach ∧ (twoFaults.records.get 0).map (·.station) = some 63 ∧
    (∀ i f, twoFaults.records.get i = some f → f.station ≠ 5) ∧ twoFaults.records.get 1 = none ∧
    (∀ i, eightFaults.records.get i ≠ none) ∧ readFaultClear [0x81, 1] = some ⟨0x81, true⟩ := by
  refine ⟨oneEach_of (by decide +kernel), oneEach_of (by decide +kernel), by decide +kernel, ?_, by decide +kernel,
    by decide +kernel, by decide⟩
  intro i f h
  have named : (List.finRange 8).all (fun i => (twoFaults.records.get i).all fun f => f.station != 5) = true := by
    decide +kernel
  have := List.all_eq_true.mp named i (List.mem_finRange i)
  simpa [h] using this

/-- Section 9.5, step 4: the fault of station 63 collapses into its record, which keeps its time and reason. -/
theorem test_fault_collapses :
    ((⟨(Tab.const 8 none).set 0 (some ⟨63, .s 2, 0x20, .notAdmitted, 28800, 0⟩), false, some 0⟩ : Recorder).take 63 (.s 2)
      0x20 .notAdmitted 28809).1.records.get 0 = some ⟨63, .s 2, 0x20, .notAdmitted, 28800, 1⟩ := by decide +kernel

def enabledClass (n : Fin 8) (s : State) : State := s.setNotice n fun c => { c with enabled := true }

theorem witness_SourceSetOffersANotice :
    (∀ i, (store.notices.get 1).sources.get i = false) ∧ (store.notices.get 1).enabled = false ∧
    ((enabledClass 1 store).notices.get 1).enabled = true ∧ store.slotFree = true ∧ store.links.waits = [] ∧
    noSlots.slotFree = false ∧
    ((store.setSource .pickupOverdue).notices.get 1).sources.get 0 = true := by decide +kernel

/-- A waiting notice of class 7, and class 1 disabled with its pending flag set, beside a free slot or without one. -/
def noticesWait (s : State) : State :=
  { s with notices := s.notices.set 1 ⟨Quad.const true, false, true⟩, links := { s.links with waits := [.notice 7] } }

theorem witness_NoticeClassesAreReadAndEnabled :
    (∀ code ps, (queueing (noticesWait store) code ps).AtHead ⟨7, code, ps⟩ code) ∧
    (∀ code ps f, Ready (withBooks f) code ps) ∧ readIndex 8 [7] = some 7 ∧ readNoticeEnable [2, 0x80] = some ⟨2, 0x80⟩ ∧
    readNoticeEnable [1, 0x81] = none ∧ ((noticesWait store).notices.get 1).enabled = false ∧
    ((noticesWait store).notices.get 1).pending = true ∧ (2 : BitVec 8).getLsbD 1 = true ∧
    (0x80 : BitVec 8).getLsbD 7 = true ∧ (noticesWait store).links.waits ≠ [] ∧
    (noticesWait store).links.waits.filter (fun w => w != .notice 7) = [] ∧ (noticesWait noSlots).slotFree = false :=
  ⟨fun _ _ => ⟨rfl, rfl, rfl, [], rfl⟩, fun code ps f => atStore f code ps, by decide +kernel⟩

/-- Any state has flags that say what the summary's rules say. -/
theorem witness_StatusSummaryFlags (s : State) : ∃ fault admitFail link : Fin 4 → Bool, ∃ dock : Fin 2 → Bool,
    (∀ i, fault i = true ↔ ∃ j f, s.recorder.records.get j = some f ∧ f.segment = .s i) ∧
    (∀ i, admitFail i = true ↔ ∃ a, s.admission.get a = .failed i) ∧ (∀ i, link i = (s.links.segs.get i).up) ∧
    (∀ d, dock d = true ↔ (s.books.docks.get d).state ≠ .idle ∧ (s.books.docks.get d).state ≠ .lockout ∧
      (s.books.docks.get d).state ≠ .locked) := by
  classical
  exact ⟨fun i => decide (∃ j f, s.recorder.records.get j = some f ∧ f.segment = .s i),
    fun i => decide (∃ a, s.admission.get a = .failed i), fun i => (s.links.segs.get i).up,
    fun d => decide ((s.books.docks.get d).state ≠ .idle ∧ (s.books.docks.get d).state ≠ .lockout ∧
      (s.books.docks.get d).state ≠ .locked), by simp, by simp, fun _ => rfl, by simp⟩

/-! ## Tables -/

/-- Section 10.4, step 2: a pickup window of 300 in one entry is held as 240 and counted as clamped. -/
def windowOf300 : List Byte := [3, 0, 2, 1, 1] ++ beBytes 8 300000 ++ beBytes 2 300 ++ [1]

theorem test_table_write_clamps :
    (match tableWrite (⟨⟨.tillClass, 2, 1, 1⟩, beBytes 8 300000 ++ beBytes 2 300 ++ [1]⟩) store with
      | .ok (t, bs) => ((t.store.bank1.tillClasses.get 2).window, (t.store.bank0.tillClasses.get 2).window, bs)
      | .error _ => (0, 0, [])) = (240, 20, [0, 1, 0, 1]) := by decide +kernel

theorem witness_TableCommands :
    (∀ code ps f, Ready (withBooks f) code ps) ∧
    readTableWrite windowOf300 = some ⟨⟨.tillClass, 2, 1, 1⟩, beBytes 8 300000 ++ beBytes 2 300 ++ [1]⟩ ∧
    store.store.activation = none ∧
    (∀ i ∈ (⟨.tillClass, 7, 1, 1⟩ : EntryRange).indices, i < TableName.tillClass.entries) ∧
    (∃ i ∈ (⟨.tillClass, 7, 2, 1⟩ : EntryRange).indices, TableName.tillClass.entries ≤ i) ∧
    0 ∈ (⟨.rate, 0, 1, 1⟩ : EntryRange).indices ∧ readTableRead [1, 3, 0, 7, 1, 1] = some ⟨true, ⟨.tillClass, 7, 1, 1⟩⟩ :=
  ⟨fun code ps f => atStore f code ps, by decide +kernel⟩

/-- Two entries of a class table, and entry 3 of the rates: in range, once each, and never rate entry 0. -/
theorem witness_WrittenEntriesAreClamped :
    ([2, 7] : List Nat).Nodup ∧ (∀ i ∈ [2, 7], i < TableName.tillClass.entries) ∧
    (beBytes 8 300000 ++ beBytes 2 300 ++ [1] ++ beBytes 8 0 ++ beBytes 2 0 ++ [2]).length =
      [2, 7].length * TableName.tillClass.entrySize ∧
    (0 : Nat) ∉ [3] ∧ (∀ i ∈ [3], i < TableName.rate.entries) ∧
    (1 :: beBytes 4 0).length = [3].length * TableName.rate.entrySize ∧
    heldBytes (TableName.tillClass.fields 2 []) (beBytes 8 300000 ++ beBytes 2 300 ++ [1]) =
      beBytes 8 300000 ++ beBytes 2 240 ++ [1] ∧
    clampedFields (TableName.tillClass.fields 2 []) (beBytes 8 300000 ++ beBytes 2 300 ++ [1]) = 1 := by decide +kernel

/-- Section 10.4, between steps 3 and 6: every port but S1 stands at bank 1. -/
def activating : State :=
  { store with
    store := { store.store with activation := some 24 }
    links := { store.links with
      segs := (Quad.const { SegPort.powerOn with up := true, bank := 1 }).set 1 { SegPort.powerOn with up := true }
      uport := { store.links.uport with bank := 1 } } }

theorem witness_ActivationSwitchesThePorts :
    (∀ f, Ready (withBooks f) 0x18 []) ∧
    (((hearing store 0x11 10 []).links.segs.get 0).hand ≠ none ∧
      ((hearing store 0x11 10 []).links.segs.get 0).bank = store.store.active ∧ store.store.activation = none) ∧
    activating.store.activation = some 24 ∧ (activating.links.segs.get 1).hand = none ∧
    (activating.links.segs.get 1).bank = activating.store.active ∧
    activating.links.uport.bank = activating.store.staged ∧
    ∀ q, q ≠ 1 → (activating.links.segs.get q).bank = activating.store.staged :=
  ⟨fun f => atStore f _ _, by decide +kernel⟩

/-- U alone in a frame; the last port U; and two ports still to change. -/
def uInFrame : State := upHearing store (upHand 0 0x70 [] none)
def uLast : State :=
  { activating with links := { activating.links with
      segs := activating.links.segs.set 1 { SegPort.powerOn with up := true, bank := 1 }
      uport := { activating.links.uport with bank := 0 } } }
def twoToChange : State :=
  { activating with links := { activating.links with uport := { activating.links.uport with bank := 0 } } }

theorem witness_ports_change :
    (store.links.uport.hand = none ∧ ∀ p, (store.links.segs.get p).hand = none) ∧
    uInFrame.links.uport.hand ≠ none ∧ uInFrame.links.uport.bank = uInFrame.store.active ∧
    uInFrame.store.activation = none ∧ Ready uInFrame 0x18 [] ∧
    uLast.links.uport.hand = none ∧ uLast.links.uport.bank = uLast.store.active ∧
    (∀ q, (uLast.links.segs.get q).bank = uLast.store.staged) ∧ uLast.ReplyRoom ∧
    twoToChange.links.uport.bank = twoToChange.store.active ∧
    (twoToChange.links.segs.get 1).bank = twoToChange.store.active ∧ (twoToChange.links.segs.get 1).hand = none ∧
    noSlots.slotFree = false :=
  ⟨by decide +kernel, by decide +kernel, by decide +kernel, rfl, ready _ _ (by decide +kernel), by decide +kernel,
    by decide +kernel, by decide +kernel, ⟨rfl, by decide +kernel⟩, by decide +kernel, by decide +kernel,
    by decide +kernel, by decide +kernel⟩

/-- What the completion of an activation is made of exists: the stations that move, their entries, and its reply. -/
theorem witness_completion (s : State) (tag : BitVec 16) :
    ∃ (moved : Fin 256 → Bool) (M : Tab Admission 256) (done : State → State),
      (∀ a e f, e = (s.store.bank s.store.active).station (BitVec.ofFin a) →
        f = (s.store.bank s.store.staged).station (BitVec.ofFin a) →
        (moved a = true ↔ a ≠ 0 ∧ a ≠ 255 ∧
          (e.role.code ≠ f.role.code ∨ e.segment ≠ f.segment ∨ e.role.unit ≠ f.role.unit))) ∧
      (∀ a, M.get a = if moved a = true then .absent else s.admission.get a) ∧
      ∀ u v : State, v = { u with
          store := ⟨s.store.bank s.store.staged, s.store.bank s.store.staged, s.store.staged, none⟩, admission := M } →
        ∀ bs, bs = oneByte s.store.staged.val ++ twoBytes ((List.finRange 256).filter moved).length →
        (v.ReplyRoom → done u = v.said ⟨tag, 0x18, []⟩ none bs) ∧
        (¬ v.ReplyRoom → done u = { v with links := { v.links with
          waits := v.links.waits ++ [.reply ⟨tag, 0x18, none, bs⟩ .activate] } }) := by
  let moved : Fin 256 → Bool := fun a => decide (a ≠ 0 ∧ a ≠ 255 ∧
    (((s.store.bank s.store.active).station (BitVec.ofFin a)).role.code ≠
        ((s.store.bank s.store.staged).station (BitVec.ofFin a)).role.code ∨
      ((s.store.bank s.store.active).station (BitVec.ofFin a)).segment ≠
        ((s.store.bank s.store.staged).station (BitVec.ofFin a)).segment ∨
      ((s.store.bank s.store.active).station (BitVec.ofFin a)).role.unit ≠
        ((s.store.bank s.store.staged).station (BitVec.ofFin a)).role.unit))
  obtain ⟨M, hM⟩ : ∃ M : Tab Admission 256, ∀ a, M.get a = if moved a = true then .absent else s.admission.get a :=
    ⟨s.admission.mapIx fun a e => if moved a = true then .absent else e, fun a => Tab.get_mapIx ..⟩
  have each : ∀ u : State, ∃ d : State, ∀ v : State, v = { u with
        store := ⟨s.store.bank s.store.staged, s.store.bank s.store.staged, s.store.staged, none⟩, admission := M } →
      ∀ bs, bs = oneByte s.store.staged.val ++ twoBytes ((List.finRange 256).filter moved).length →
      (v.ReplyRoom → d = v.said ⟨tag, 0x18, []⟩ none bs) ∧
      (¬ v.ReplyRoom → d = { v with links := { v.links with
        waits := v.links.waits ++ [.reply ⟨tag, 0x18, none, bs⟩ .activate] } }) := by
    intro u
    by_cases room : u.ReplyRoom
    · exact ⟨_, by rintro v rfl bs rfl; exact ⟨fun _ => rfl, fun h => absurd room h⟩⟩
    · exact ⟨_, by rintro v rfl bs rfl; exact ⟨fun h => absurd h room, fun _ => rfl⟩⟩
  obtain ⟨done, hdone⟩ := Classical.axiomOfChoice each
  exact ⟨moved, M, done, by rintro a e f rfl rfl; exact decide_eq_true_iff, hM, hdone⟩

/-- R184, section 10.4: with every port at a boundary the banks exchange in the step of the ACTIVATE, and its reply is placed. -/
theorem test_activate_at_once :
    ∃ t, exec .activate (queueing store 0x18 []) = .next t ∧ t.store.active = 1 ∧ t.store.activation = none ∧
      t.links.uport.bank = 1 ∧ t.links.uplink.length = 1 ∧ t.mgmt.queue = [] := ⟨_, rfl, by decide +kernel⟩

/-! ## Management -/

/-- A management frame in hand at U. -/
def managing (s : State) (bs : List Byte) : State := upHearing s (upHand 0 0x70 bs none)

theorem witness_ManagementFramesAndImmediateCommands :
    receiveOk (upHand 0 0x70 [0, 7, 0x15, 0, 0] none).hdr (upBody 0 0x70 [0, 7, 0x15, 0, 0]) = true ∧
    (managing store [0, 7, 0x15, 0, 0]).links.uport.hand = some (upHand 0 0x70 [0, 7, 0x15, 0, 0] none) ∧
    commandsOf [0, 7, 0x15, 0, 0] = some [⟨7, 0x15, []⟩] ∧ commandsOf [0, 7, 0x15, 0, 1] = none ∧
    (List.replicate 31 (⟨7, 0x15, []⟩ : Command)).length + 1 ≤ 32 ∧
    32 < (List.replicate 32 (⟨7, 0x15, []⟩ : Command)).length + 1 ∧
    ([0, 7, 0x1E, 0, 0] : List Byte) = beBytes 2 (7 : BitVec 16).toNat ++ [0x1E, 0, 0] ∧
    receiveOk (upHand 0 0x70 [0, 7, 0x1E, 0, 0] none).hdr (upBody 0 0x70 [0, 7, 0x1E, 0, 0]) = true ∧
    store.links.waits = [] ∧ store.slotFree = true ∧ noSlots.slotFree = false ∧
    commandsOf [0, 7, 0x15, 0, 0, 0, 8, 0x1E, 0, 0] = some [⟨7, 0x15, []⟩, ⟨8, 0x1E, []⟩] ∧
    ([⟨7, 0x15, []⟩, ⟨8, 0x1E, []⟩] : List Command).filter (fun c => c.code != 0x1E && c.code != 0x1F && c.code != 0x20) =
      [⟨7, 0x15, []⟩] ∧
    (⟨[⟨7, 0x15, []⟩], false, .replyWaiting⟩ : Mgmt).phase = .replyWaiting ∧
    (⟨[⟨7, 0x15, []⟩], true, .fresh⟩ : Mgmt).stalled = true := by decide +kernel

/-- Section 11.7: the stalled READ_LANE as READ_STATUS shows it, and the slots held. -/
theorem witness_status_reply :
    ({ queueing store 0x0A [0, 0] with mgmt := ⟨[⟨43, 0x0A, [0, 0]⟩], true, .fresh⟩ } : State).mgmt.queue =
      ⟨43, 0x0A, [0, 0]⟩ :: [] ∧
    (⟨43, 0x0A, [0, 0]⟩ : Command).stallReason = some .malformed ∧
    (noSlots.links.uplink.filter fun f => f.cls == .forward).length = 56 ∧ 56 + 8 = noSlots.links.uplink.length := by
  decide +kernel

/-- A FENCE waiting at the head, for an activation or for the waiting reply of an ACTIVATE. -/
def fenceWaits (s : State) : State := { s with mgmt := ⟨[⟨7, 0x19, [1]⟩], false, .fenceWaiting⟩ }

theorem witness_QueueStallAndFence :
    (queueing store 0x19 [1]).mgmt.queue = [⟨7, 0x19, [1]⟩] ∧ readNotify [1] = some true ∧ readNotify [0] = some false ∧
    store.store.activation = none ∧ activating.store.activation ≠ none ∧
    (fenceWaits activating).mgmt.phase = .fenceWaiting ∧
    (.reply ⟨6, 0x18, none, []⟩ .activate) ∈ (fenceWaits (store.addWait (.reply ⟨6, 0x18, none, []⟩ .activate))).links.waits ∧
    (∀ r, WaitItem.reply r .activate ∉ (fenceWaits noSlots).links.waits) ∧ (fenceWaits noSlots).slotFree = false ∧
    (fenceWaits store).links.waits = [] ∧ (fenceWaits store).slotFree = true ∧
    (0x1D : Nat) < (0x1E : Byte).toNat ∧ (∀ f, Ready (withBooks f) 0x19 [1]) ∧
    (⟨7, 0x06, [160]⟩ : Command).stallReason = some .malformed ∧ (⟨7, 0x06, [159]⟩ : Command).stallReason = none ∧
    (⟨7, 0x1A, beBytes 4 86400⟩ : Command).stallReason = some .malformed ∧ (⟨7, 0x03, []⟩ : Command).stallReason = none :=
  ⟨rfl, by decide +kernel, by decide +kernel, rfl, by decide +kernel, rfl, by decide +kernel,
    by simp [fenceWaits, noSlots, store, State.reset, Links.powerOn], by decide +kernel, rfl, by decide +kernel, by decide,
    fun f => atStore f _ _, by decide +kernel⟩

/-- Section 11.7: READ_LANE with a count of 0 stalls the queue. -/
theorem test_read_lane_of_no_lane_stalls :
    (⟨43, 0x0A, [0, 0]⟩ : Command).stallReason = some .malformed ∧
      (⟨43, 0x21, []⟩ : Command).stallReason = some .unknownCommand := by decide +kernel

theorem witness_TimeOfDayAndWaitingReplies :
    store.clock.tod < 86400 ∧ readTimeOfDay (beBytes 4 86399) = some 86399 ∧ readTimeOfDay (beBytes 4 86400) = none ∧
    noSlots.slotFree = false ∧ (∀ f, Ready (withBooks f) 0x1A (beBytes 4 86399)) :=
  ⟨by decide +kernel, by decide +kernel, by decide +kernel, by decide +kernel, fun f => atStore f _ _⟩

/-- A command of each end of the table, at the head with no room for its reply; and an ACTIVATE with one pending. -/
theorem witness_waiting_replies :
    (∀ code ps, (queueing noSlots code ps).AtHead ⟨7, code, ps⟩ code ∧ ¬ (queueing noSlots code ps).ReplyRoom) ∧
    (⟨7, 0x01, baseList 1⟩ : Command).stallReason = none ∧ (⟨7, 0x17, [1, 3, 0, 7, 1, 1]⟩ : Command).stallReason = none ∧
    (⟨7, 0x07, [1, 4, 0, 0]⟩ : Command).stallReason = none ∧
    ((queueing noSlots 0x03 []).replyWaits ⟨7, 0x03, []⟩ none []).mgmt.phase = .replyWaiting ∧
    (queueing { noSlots with store := activating.store } 0x18 []).store.activation ≠ none := by
  refine ⟨fun code ps => ⟨⟨rfl, rfl, rfl, [], rfl⟩, fun h => ?_⟩, by decide +kernel, by decide +kernel,
    by decide +kernel, rfl, by decide +kernel⟩
  have free : noSlots.slotFree = true := h.2
  exact absurd free (by decide +kernel)

theorem test_midnight :
    ∃ t, exec .timeOfDayTick { store with clock := ⟨86399, false⟩ } = .next t ∧ t.clock = ⟨0, false⟩ := ⟨_, rfl, rfl⟩

theorem witness_OpeningNeedsAnEmptyAccount :
    (∀ f, Ready (withBooks f) 0x01 (baseList 1000000)) ∧ readDeclared (baseList 1000000) = some [(0, 1000000)] ∧
    (reserveOf 1 books).pos ≠ Positions.powerOn ∧
    ({ Positions.powerOn with drawer := Positions.powerOn.drawer.set 7 ⟨1, 0, 0, 0⟩ } : Positions) ≠ Positions.powerOn ∧
    ({ Positions.powerOn with uncounted := ⟨1, 0, 0, 0⟩ } : Positions) ≠ Positions.powerOn ∧ tables.currenciesEnabled [(0, 1000000)] = true ∧
    tables.currenciesEnabled [(3, 1)] = false ∧ books.pos = Positions.powerOn :=
  ⟨fun f => atStore f _ _, by decide +kernel, by decide +kernel, by decide +kernel, by decide +kernel, by decide +kernel,
    by decide +kernel, rfl⟩

theorem witness_ReadsReplyAndChangeNothing :
    (∀ code ps f, Ready (withBooks f) code ps) ∧ readPositionsSel [1, 128, 32] = some (.tills (128, 32)) ∧
    readDepositSel (1 :: beBytes 4 1) = some (.number 1) ∧ readDepositSel [0, 1, 255, 1] = some (.index (511, 1)) ∧
    readTillSel [0, 159, 1] = some (.index (159, 1)) ∧ readTillSel [0, 159, 2] = none ∧
    readSafeSel [1, 31, 1] = some (.transfer (31, 1)) ∧ readLaneRange [0, 6] = some (0, 6) ∧
    readDockSel [1, 7, 1] = some (.consignment (7, 1)) ∧ readDepositSel [2] = some .summary ∧
    ([511] : List (Fin 512)).map (fun j => j.val) = List.range' 511 1 ∧
    ([158, 159] : List (Fin 160)).map (fun j => j.val) = List.range' 158 2 ∧
    ([1] : List (Fin 2)).map (fun j => j.val) = List.range' 1 1 ∧
    (books.deposits.get 0 = none ∧ ∀ j, j < 0 → books.deposits.get j ≠ none) ∧ (withDep 511 (dep .carried 1)).findLive 1 = some 511 ∧
    (withDep 511 (dep .carried 1)).findLive 2 = none := by
  refine ⟨fun code ps f => atStore f code ps, ?_⟩
  rw [findLive_withDep, findLive_withDep]
  decide +kernel

theorem witness_SoftResetKeepsTheAccount : ∀ f, Ready (withBooks f) 0x1D [] := fun f => atStore f _ _

/-! ## Steps -/

/-- Section 4.11, step 5: the tender that takes the drawer to 236,100 and 60,000 makes the till PICKUP_DUE with a timer of
1,200 seconds, and a PICKUP_CALL with 305,910, 300,000 and 1,200 stands behind the ACCEPT answer. -/
def stepFive : State :=
  withBooks fun _ => { withTill (trading .opened none) with
    pos := { Positions.powerOn with
      drawer := Positions.powerOn.drawer.set 7 ⟨228100, 60000, 0, 0⟩, accountability := ⟨228100, 60000, 0, 0⟩ } }

theorem test_tender_over_the_limit :
    ∃ t, exec (.tillTender 0 (bodyOf 0x11 10 (tenders 8000 0))) (hearing stepFive 0x11 10 (tenders 8000 0)) = .next t ∧
      (t.books.tills.get 7).state = .pickupDue ∧ (t.books.tills.get 7).timer = some ⟨1200, 1200⟩ ∧
      (t.books.pos.drawer.get 7) = ⟨236100, 60000, 0, 0⟩ ∧ (t.links.segs.get 0).queue.map (·.kind) = [0xF0, 0xF1] ∧
      ((t.links.segs.get 0).queue.map (·.payload)).drop 1 =
        [7 :: beBytes 8 305910 ++ beBytes 8 300000 ++ beBytes 2 1200] ∧ t.links.movement = 1 :=
  ⟨_, rfl, by decide +kernel⟩

/-- Section 5.10, step 4: the third drop takes the bag value to 520,000, past the limit of 500,000, and the bags swap. -/
def stepFour : State :=
  withBooks fun _ =>
    withSafe ⟨.running, ⟨.active, [100, 101], 210000⟩, ⟨.empty, [], 0⟩, some ⟨700600003, 102, .a, 30⟩, false⟩
      (withDep 102 { dep .carried 700600003 with base := 310000 })

theorem test_drop_swaps_the_bags :
    ∃ t, exec (.dropDone 0 (bodyOf 0x21 20 (beBytes 4 700600003))) (hearing stepFour 0x21 20 (beBytes 4 700600003)) = .next t ∧
      (t.books.safes.get 5).bagA = ⟨.full, [100, 101, 102], 520000⟩ ∧
      (t.books.safes.get 5).bagB = ⟨.active, [], 0⟩ ∧ (t.books.safes.get 5).reservation = none ∧
      (t.books.deposits.get 102).map (·.state) = some .inSafe :=
  ⟨_, rfl, by decide +kernel⟩

/-- Section 7.11, step 1: the courier inside the window starts a qualification of 5 seconds with a gap of 2. -/
theorem test_arrival_starts :
    ∃ t, exec (.arriveBeacon 0 (bodyOf 0x40 60 (beBytes 2 5150))) (hearing store 0x40 60 (beBytes 2 5150)) = .next t ∧
      (t.books.docks.get 0).state = .qualifying ∧ (t.books.docks.get 0).qualify = some ⟨34800, 5, 2⟩ :=
  ⟨_, rfl, by decide +kernel⟩

/-- The front command is taken, and an empty queue idles. -/
theorem test_step_takes_the_front :
    (∃ t, step { store with pending := [.linkDown .u, .timeOfDayTick] } = .next t ∧ t.pending = [.timeOfDayTick] ∧
      t.links.uport.up = false) ∧ step store = .next store :=
  ⟨⟨_, rfl, rfl, rfl⟩, rfl⟩

end Sys2Proof.Tests
end

/-! ## Power-on reset -/

namespace Sys2Proof.Machine
open Sys2Proof

theorem exec_powerOnReset (s : State) :
    exec .powerOnReset s = .next { State.reset with pending := s.pending } := rfl

/-- R3: whatever the table stores, entry 0 reads hard-wired and the visitor currencies read power-on. -/
theorem Tables.powerOn_rate (c : Fin 4) :
    Tables.powerOn.rate c = if c = 0 then ⟨true, 1000000⟩ else ⟨false, 1⟩ := by
  simp [Tables.rate, Tables.powerOn, Rate.powerOn]

/-- Either bank's tables hold the power-on entries (R3, R5, R161, R178, R179). -/
theorem Tables.powerOn_entries :
    (∀ a, Tables.powerOn.stations.get a = ⟨.none, 0, 0, false⟩) ∧
    (∀ i, Tables.powerOn.denoms.get i = ⟨false, 0, 1, .note, false, 0, 0, 1⟩) ∧
    (∀ c, Tables.powerOn.rate c = if c = 0 then ⟨true, 1000000⟩ else ⟨false, 1⟩) ∧
    (∀ i, Tables.powerOn.tillClasses.get i = ⟨0, 1, .flag⟩) ∧ (∀ i, Tables.powerOn.safes.get i = ⟨1, 0, .stop⟩) ∧
    (∀ i, Tables.powerOn.domains.get i = ⟨0, 0⟩) ∧ (∀ i, Tables.powerOn.staff.get i = ⟨0, 0, false, false, false⟩) ∧
    (∀ i, Tables.powerOn.couriers.get i = ⟨0, false⟩) ∧ (∀ i, Tables.powerOn.schedule.get i = ⟨false, 0, 0⟩) ∧
    (∀ d, Tables.powerOn.dockModes.get d = .auto) ∧
    Tables.powerOn.timing = ⟨30, 30, 20, 3, 2, 5, 5, 60, 120, 3, 30⟩ :=
  ⟨Tab.get_const _, Tab.get_const _, Tables.powerOn_rate, Tab.get_const _, Tab.get_const _, Tab.get_const _,
    Tab.get_const _, Tab.get_const _, Tab.get_const _, Tab.get_const _, rfl⟩

/-- Settles O3: each table of records at reset repeats one record, and the other fields stand in the reset state. -/
theorem powerOnResetValues : Obligations.PowerOnResetValues := by
  intro s
  refine ⟨_, exec_powerOnReset s, rfl, rfl, fun i => ⟨Tab.get_const _ i, Tab.get_const _ i⟩, Tab.get_const _,
    rfl, rfl, rfl, rfl, rfl, noAmounts_get, Tab.get_const _, rfl, Tab.get_const _, Tab.get_const _, Tab.get_const _,
    ?lanes, Tab.get_const _, Tab.get_const _, Quad.get_const _, rfl, rfl, rfl, rfl, rfl, Tab.get_const _,
    Tab.get_const _, rfl, rfl, rfl, rfl, rfl, rfl, rfl, Tab.get_const _, ?tables⟩
  case lanes =>
    intro i
    have idle : State.reset.books.lanes.get i = Lane.idle := Tab.get_const _ i
    simp only [idle]
    exact ⟨rfl, rfl, fun d => ⟨Tab.get_const _ d, Tab.get_const _ d⟩⟩
  case tables =>
    rintro T (rfl | rfl) <;> exact Tables.powerOn_entries

end Sys2Proof.Machine

/-! ## Movements, float issue and float recall -/

namespace Sys2Proof.Machine
open Sys2Proof

theorem Books.move_ok {bk : Books} {m : Move} {q : Positions} (moves : bk.pos.present m = .ok q) :
    bk.move m = .ok { bk with pos := q } := by
  simp [Books.move, moves]

theorem Books.move_refused {bk : Books} {m : Move} {r : Reason} (refuses : bk.pos.present m = .error r) :
    bk.move m = .error r := by
  simp [Books.move, refuses]

theorem floatIssue_badState {T : Tables} {tod : Nat} {f : FloatIssue} {bk : Books}
    (other : (bk.tills.get f.till).state ≠ .closed) : floatIssue T tod f bk = .error .badState := by
  simp [floatIssue, other]

theorem floatIssue_currencyDisabled {T : Tables} {tod : Nat} {f : FloatIssue} {bk : Books}
    (closed : (bk.tills.get f.till).state = .closed) (off : T.currenciesEnabled f.list = false) :
    floatIssue T tod f bk = .error .currencyDisabled := by
  simp [floatIssue, closed, off]

theorem floatIssue_refused {T : Tables} {tod : Nat} {f : FloatIssue} {bk : Books} {r : Reason}
    (closed : (bk.tills.get f.till).state = .closed) (on : T.currenciesEnabled f.list = true)
    (refuses : bk.pos.present (floatIssueMove f.till (storedList f.list)) = .error r) :
    floatIssue T tod f bk = .error r := by
  simp [floatIssue, closed, on, Books.move_refused refuses]

theorem floatIssue_ok {T : Tables} {tod : Nat} {f : FloatIssue} {bk : Books} {q : Positions}
    (closed : (bk.tills.get f.till).state = .closed) (on : T.currenciesEnabled f.list = true)
    (moves : bk.pos.present (floatIssueMove f.till (storedList f.list)) = .ok q) :
    floatIssue T tod f bk = .ok (({ bk with pos := q } : Books).setTill f.till { bk.tills.get f.till with
        state := .floatTransit, floatIssued := some (storedList f.list), pickups := 0, lastMove := some tod },
      oneByte f.till.val ++ listBytes (q.transit.get f.till)) := by
  simp [floatIssue, closed, on, Books.move_ok moves]

theorem floatRecall_badState {tod : Nat} {t : Fin 160} {bk : Books}
    (other : (bk.tills.get t).state ≠ .floatTransit) : floatRecall tod t bk = .error .badState := by
  simp [floatRecall, other]

theorem floatRecall_refused {tod : Nat} {t : Fin 160} {bk : Books} {r : Reason}
    (transit : (bk.tills.get t).state = .floatTransit)
    (refuses : bk.pos.present (floatRecallMove bk.pos t) = .error r) : floatRecall tod t bk = .error r := by
  simp [floatRecall, transit, Books.move_refused refuses]

theorem floatRecall_ok {tod : Nat} {t : Fin 160} {bk : Books} {q : Positions}
    (transit : (bk.tills.get t).state = .floatTransit)
    (moves : bk.pos.present (floatRecallMove bk.pos t) = .ok q) :
    floatRecall tod t bk = .ok (({ bk with pos := q } : Books).setTill t { bk.tills.get t with
        state := .closed, floatIssued := none, lastMove := some tod }, listBytes (bk.pos.transit.get t)) := by
  simp [floatRecall, transit, Books.move_ok moves]

/-- The state once the ruling of a command's owner over the records of chapters 2 to 7 is replied (R187). -/
def State.ruled (s : State) (c : Command) : Except Reason (Books × List Byte) → State
  | .error r => s.completed c (some r) []
  | .ok (bk, result) => (s.withBooks bk).completed c none result

theorem queuedBooks_ruled {α : Type} {code : Byte} {parse : List Byte → Option α}
    {act : α → State → Except Reason (Books × List Byte)} {s : State} {c : Command} {a : α}
    (head : s.AtHead c code) (reads : parse c.params = some a) (room : s.ReplyRoom) :
    queuedBooks code parse act s = s.ruled c (act a s) := by
  cases ruling : act a s with
  | error r => exact queuedBooks_refused head reads room ruling
  | ok accepted => exact queuedBooks_accepted head reads room ruling

theorem exec_floatIssue {s : State} {c : Command} {f : FloatIssue} (head : s.AtHead c 0x05)
    (reads : readFloatIssue c.params = some f) (room : s.ReplyRoom) :
    exec .floatIssue s = .next (s.ruled c (floatIssue s.activeTables s.clock.tod f s.books)) :=
  congrArg _ (queuedBooks_ruled head reads room)

theorem exec_floatRecall {s : State} {c : Command} {t : Fin 160} (head : s.AtHead c 0x06)
    (reads : readIndex 160 c.params = some t) (room : s.ReplyRoom) :
    exec .floatRecall s = .next (s.ruled c (floatRecall s.clock.tod t s.books)) :=
  congrArg _ (queuedBooks_ruled head reads room)

/-- R4: a list passes where every currency it names is enabled. -/
theorem Tables.currenciesEnabled_iff (T : Tables) (l : DeclaredList) :
    T.currenciesEnabled l = true ↔ ∀ c n, (c, n) ∈ l → T.enabled c = true := by
  simp only [Tables.currenciesEnabled, List.all_eq_true, Prod.forall]

/-- Settles O16: each command's owner rules by the till's state, the currencies and the movement, and the ruling is
replied. -/
theorem floatIssueAndRecall : Obligations.FloatIssueAndRecall := by
  refine ⟨⟨fun s c f head reads room => ?issued, fun s c t head reads room => ?recalled⟩, fun T l =>
    ⟨T.currenciesEnabled_iff l, rfl, fun c visitor => by simp [Tables.enabled, Tables.rate, visitor]⟩⟩
  case issued =>
    rw [exec_floatIssue head reads room]
    refine ⟨fun other => ?_, fun closed => ⟨fun off => ?_, fun on => ⟨fun r refuses => ?_, fun q moves => ?_⟩⟩⟩
    · rw [floatIssue_badState other]; rfl
    · rw [floatIssue_currencyDisabled closed off]; rfl
    · rw [floatIssue_refused closed on refuses]; rfl
    · rw [floatIssue_ok closed on moves]; rfl
  case recalled =>
    rw [exec_floatRecall head reads room]
    refine ⟨fun other => ?_, fun transit => ⟨fun r refuses => ?_, fun q moves => ?_⟩⟩
    · rw [floatRecall_badState other]; rfl
    · rw [floatRecall_refused transit refuses]; rfl
    · rw [floatRecall_ok transit moves]; rfl

end Sys2Proof.Machine

/-! ## Lane frames -/

namespace Sys2Proof.Machine
open Sys2Proof

/-- A heard frame whose owner refuses it, with its records as they were and nothing to follow, is turned away (R164). -/
theorem bookFrame_turnedAway {α : Type} {k : OwnedKind} {parse : List Byte → Option α}
    {own : Ctx → α → Books → Ruling Books} {p : Fin 4} {b : FrameBody} {s : State} {x : Ctx} {a : α} {r : Reason}
    {place : Nat} {result : List Byte} (heard : s.Heard k p b x) (role : x.entry.role.maySend k = true)
    (reads : parse b.payload = some a) (refuses : own x a s.books = .refuse r place result .nothing s.books) :
    bookFrame k parse own p b s = s.turnedAway x r place result := by
  rw [bookFrame_heard heard role reads, refuses]
  exact settle_refuse x r place result .nothing s

/-- A heard frame that its lane accepts is answered with the lane, its state and what the kind adds (R103). -/
theorem bookFrame_laneAccepted {α : Type} {k : OwnedKind} {parse : List Byte → Option α}
    {own : Ctx → α → Books → Ruling Books} {p : Fin 4} {b : FrameBody} {s : State} {x : Ctx} {a : α} {l : Fin 6}
    {bk : Books} {more : List Byte} {sources : List Source} (heard : s.Heard k p b x)
    (role : x.entry.role.maySend k = true) (reads : parse b.payload = some a)
    (accepts : own x a s.books = laneAccepted l bk more sources) :
    bookFrame k parse own p b s = ((s.withBooks bk).setSources sources).accepted x
      (oneByte l.val ++ oneByte (bk.lanes.get l).code ++ more) :=
  bookFrame_accepted heard role reads accepts

theorem readNothing_nil {bs : List Byte} (empty : bs = []) : readNothing bs = some () := by
  subst empty
  rfl

/-! ### COUNT_CLOSE -/

theorem exec_countClose (p : Fin 4) (b : FrameBody) (s : State) :
    exec (.countClose p b) s = .next (bookFrame .countClose readNothing (fun x _ => countClose x) p b s) := rfl

/-- R19: a close is clean with a verdict in the allowed variance and no suspect amount. -/
theorem CountResult.clean_iff (r : CountResult) :
    r.clean = true ↔ (r.verdict = .balanced ∨ r.verdict = .within) ∧ ∀ c, r.suspect.get c = 0 := by
  simp [CountResult.clean, Quad.any_false_iff]

theorem CountResult.not_clean {r : CountResult}
    (h : (r.verdict = .short ∨ r.verdict = .over) ∨ ∃ c, r.suspect.get c ≠ 0) : r.clean = false := by
  rw [← Bool.not_eq_true, CountResult.clean_iff]
  rintro ⟨verdict, nothing⟩
  rcases h with h | ⟨c, h⟩
  · rcases verdict with v | v <;> simp [v] at h
  · exact h (nothing c)

theorem Deposit.counted_clean {r : CountResult} (clean : r.clean = true) (d : Deposit) (tod : Nat) :
    d.counted r tod = { d with
      state := .closed, outcome := some .counted, holder := none, result := some r, closed := some tod } := by
  simp [Deposit.counted, clean, Deposit.close]

theorem Deposit.counted_discrepant {r : CountResult} (unclean : r.clean = false) (d : Deposit) (tod : Nat) :
    d.counted r tod = { d with state := .discrepant, holder := none, result := some r } := by
  simp [Deposit.counted, unclean]

theorem countClose_idle {x : Ctx} {bk : Books} {l : Fin 6} (role : x.entry.role = .counter l)
    (idle : (bk.lanes.get l).session = none) : countClose x bk = .no .badState bk := by
  simp [countClose, role, idle]

/-- What the answer of a COUNT_CLOSE gives after the lane and its state (R115). -/
def closeAnswer (i : Fin 512) (v : CloseValue) : List Byte :=
  twoBytes i.val ++ oneByte (if v.result.clean then 0 else 1) ++ oneByte v.result.verdict.code ++
    listBytes v.result.counted ++ listBytes v.result.suspect ++ amountBytes v.result.variance ++
    amountBytes v.allowed ++ flagByte v.saturated

section
variable {x : Ctx} {bk : Books} {l : Fin 6} {ss : Session} {d : Deposit}

theorem countClose_openBundle (role : x.entry.role = .counter l) (opened : (bk.lanes.get l).session = some ss)
    (bundle : (bk.lanes.get l).bundle ≠ []) : countClose x bk = .no .openBundle bk := by
  simp [countClose, role, opened, bundle]

theorem countClose_unvalued {r : Reason} (role : x.entry.role = .counter l)
    (opened : (bk.lanes.get l).session = some ss) (used : bk.deposits.get ss.deposit = some d)
    (whole : (bk.lanes.get l).bundle = [])
    (refuses : x.tab.closeValue x.entry.domain d.declared (bk.lanes.get l).counts (bk.lanes.get l).suspects =
      .error r) :
    countClose x bk = .no r bk := by
  simp [countClose, role, opened, used, whole, refuses]

theorem countClose_unmoved {v : CloseValue} {r : Reason} (role : x.entry.role = .counter l)
    (opened : (bk.lanes.get l).session = some ss) (used : bk.deposits.get ss.deposit = some d)
    (whole : (bk.lanes.get l).bundle = [])
    (valued : x.tab.closeValue x.entry.domain d.declared (bk.lanes.get l).counts (bk.lanes.get l).suspects = .ok v)
    (refuses : bk.pos.present (countCloseMove d.declared v.result.counted v.result.suspect) = .error r) :
    countClose x bk = .no r bk := by
  simp [countClose, role, opened, used, whole, valued, Books.move_refused refuses]

/-- R114, R115: the cash moved, the deposit CLOSED at the end of the close order or DISCREPANT with its source set. -/
theorem countClose_moved {v : CloseValue} {q : Positions} (role : x.entry.role = .counter l)
    (opened : (bk.lanes.get l).session = some ss) (used : bk.deposits.get ss.deposit = some d)
    (whole : (bk.lanes.get l).bundle = [])
    (valued : x.tab.closeValue x.entry.domain d.declared (bk.lanes.get l).counts (bk.lanes.get l).suspects = .ok v)
    (moves : bk.pos.present (countCloseMove d.declared v.result.counted v.result.suspect) = .ok q) :
    countClose x bk = laneAccepted l { bk with
        pos := q
        deposits := bk.deposits.set ss.deposit (some (d.counted v.result x.clock.tod))
        closeOrder := if v.result.clean then bk.closeOrder ++ [ss.deposit] else bk.closeOrder
        lanes := bk.lanes.set l Lane.idle }
      (closeAnswer ss.deposit v) (if v.result.clean then [] else [.discrepantDeposit]) := by
  have used' : ({ bk with pos := q } : Books).deposits.get ss.deposit = some d := used
  unfold countClose
  simp only [role, opened, used, whole, valued, Books.move_ok moves, Books.changeDeposits_one used',
    Books.joinCloseOrder_one]
  cases clean : v.result.clean <;> simp [Books.setDeposit, Books.setLane, closeAnswer, clean]

end

/-- Settles O30: the lane's rule by its session, its bundle, the valuation and the movement, then the frame's answer. -/
theorem countCloseDecidesTheDeposit : Obligations.CountCloseDecidesTheDeposit := by
  refine ⟨fun s p b x l heard role empty idle => ?idle, fun s p b x l ss d heard role empty opened used => ?opened⟩
  all_goals
    have may : x.entry.role.maySend .countClose = true := by rw [role]; rfl
    have reads := readNothing_nil empty
    rw [exec_countClose]
  case idle => rw [bookFrame_turnedAway heard may reads (countClose_idle role idle)]
  case opened =>
    refine ⟨fun bundle => ?_, fun whole => ⟨fun r refuses => ?_, fun v valued => ⟨fun r refuses => ?_, fun q moves =>
      ⟨fun inside => ?clean, fun outside => ?discrepant⟩⟩⟩⟩
    · rw [bookFrame_turnedAway heard may reads (countClose_openBundle role opened bundle)]
    · rw [bookFrame_turnedAway heard may reads (countClose_unvalued role opened used whole refuses)]
    · rw [bookFrame_turnedAway heard may reads (countClose_unmoved role opened used whole valued refuses)]
    case clean =>
      have clean := v.result.clean_iff.mpr inside
      rw [bookFrame_laneAccepted heard may reads (countClose_moved role opened used whole valued moves)]
      simp [clean, Deposit.counted_clean clean, closeAnswer, State.setSources, Lane.code, Lane.idle, oneByte, beBytes]
    case discrepant =>
      have unclean := CountResult.not_clean outside
      rw [bookFrame_laneAccepted heard may reads (countClose_moved role opened used whole valued moves)]
      simp [unclean, Deposit.counted_discrepant unclean, closeAnswer, State.setSources, Lane.code, Lane.idle, oneByte,
        beBytes]

end Sys2Proof.Machine

/-! ### COUNT_DATA -/

namespace Sys2Proof

theorem Tab.rows_any_iff {α : Type} {n : Nat} (t : Tab α n) (p : α → Bool) :
    t.rows.any p = true ↔ ∃ i, p (t.get i) = true := by
  rw [t.rows_eq]
  simp

end Sys2Proof

namespace Sys2Proof.Machine
open Sys2Proof

theorem exec_countData (p : Fin 4) (b : FrameBody) (s : State) :
    exec (.countData p b) s = .next (bookFrame .countData readCountData countData p b s) := rfl

section
variable {x : Ctx} {bk : Books} {l : Fin 6} {rs : List CountRecord}

/-- The working copy a frame's walk begins with (R107). -/
def Lane.working (l : Lane) : Working := ⟨l.counts, l.suspects, l.bundle, 0⟩

theorem countData_idle (role : x.entry.role = .counter l) (idle : (bk.lanes.get l).session = none) :
    countData x rs bk = .no .badState bk := by
  simp [countData, role, idle]

theorem countData_refused {ss : Session} {r : Reason} {n : Nat} (role : x.entry.role = .counter l)
    (opened : (bk.lanes.get l).session = some ss)
    (fails : walkRecords x.tab 1 (bk.lanes.get l).working rs = .error (r, n)) :
    countData x rs bk = .refuse r n [] .nothing bk := by
  rw [Lane.working] at fails
  simp [countData, role, opened, fails]

theorem countData_accepted {ss : Session} {w : Working} (role : x.entry.role = .counter l)
    (opened : (bk.lanes.get l).session = some ss)
    (passes : walkRecords x.tab 1 (bk.lanes.get l).working rs = .ok w) :
    countData x rs bk = laneAccepted l
      (bk.setLane l ⟨some { ss with idle := idleTimer x.tab }, w.counts, w.suspects, w.bundle⟩)
      (twoBytes rs.length ++ twoBytes w.committed ++ twoBytes w.bundle.length) [] := by
  rw [Lane.working] at passes
  simp [countData, role, opened, passes]

end

/-! The walk. -/

theorem walkRecords_cons_error {T : Tables} {w : Working} {r : CountRecord} {e : Reason} (place : Nat)
    (rest : List CountRecord) (fails : w.take T r = .error e) :
    walkRecords T place w (r :: rest) = .error (e, place) := by
  simp [walkRecords, fails]

theorem walkRecords_cons_ok {T : Tables} {w w' : Working} {r : CountRecord} (place : Nat) (rest : List CountRecord)
    (passes : w.take T r = .ok w') : walkRecords T place w (r :: rest) = walkRecords T (place + 1) w' rest := by
  simp [walkRecords, passes]

/-- A walk goes on after records that pass with the copy they leave, at the place after theirs (R107). -/
theorem walkRecords_append {T : Tables} {w' : Working} {before : List CountRecord} (rest : List CountRecord) :
    ∀ {place : Nat} {w : Working}, walkRecords T place w before = .ok w' →
      walkRecords T place w (before ++ rest) = walkRecords T (place + before.length) w' rest := by
  induction before with
  | nil =>
    intro place w h
    cases h
    rfl
  | cons r rs ih =>
    intro place w h
    cases taken : w.take T r with
    | error e =>
      rw [walkRecords_cons_error place rs taken] at h
      cases h
    | ok next =>
      rw [walkRecords_cons_ok place rs taken] at h
      rw [List.cons_append, walkRecords_cons_ok place _ taken, ih h, List.length_cons]
      congr 1
      omega

/-! Checks 1 to 4. -/

section
variable {T : Tables} {r : CountRecord}

theorem takeRecord_invalid (invalid : (T.denoms.get r.denom).valid = false) : T.takeRecord r = .error .badState := by
  simp [Tables.takeRecord, invalid]

theorem takeRecord_disabled (valid : (T.denoms.get r.denom).valid = true)
    (off : (T.rate (T.denoms.get r.denom).currency).enabled = false) : T.takeRecord r = .error .currencyDisabled := by
  simp [Tables.takeRecord, Tables.enabled, valid, off]

theorem takeRecord_otherForm (valid : (T.denoms.get r.denom).valid = true)
    (on : (T.rate (T.denoms.get r.denom).currency).enabled = true)
    (other : (T.denoms.get r.denom).form ≠ r.kind.form) : T.takeRecord r = .error .badState := by
  simp [Tables.takeRecord, Tables.enabled, valid, on, other]

theorem takeRecord_counted (valid : (T.denoms.get r.denom).valid = true)
    (on : (T.rate (T.denoms.get r.denom).currency).enabled = true) (form : (T.denoms.get r.denom).form = r.kind.form)
    (counted : r.kind ≠ .weigh) : T.takeRecord r = .ok ⟨r.kind.held, r.denom, r.value⟩ := by
  simp [Tables.takeRecord, Tables.enabled, valid, on, form, counted]

theorem takeRecord_uncalibrated (valid : (T.denoms.get r.denom).valid = true)
    (on : (T.rate (T.denoms.get r.denom).currency).enabled = true) (form : (T.denoms.get r.denom).form = .coin)
    (weighed : r.kind = .weigh)
    (unfit : (T.denoms.get r.denom).calibrated = false ∨
      (T.denoms.get r.denom).refRead ≤ (T.denoms.get r.denom).zeroRead) :
    T.takeRecord r = .error .uncalibrated := by
  simp [Tables.takeRecord, Tables.enabled, RecordKind.form, valid, on, form, weighed, unfit]

theorem takeRecord_weighed (valid : (T.denoms.get r.denom).valid = true)
    (on : (T.rate (T.denoms.get r.denom).currency).enabled = true) (form : (T.denoms.get r.denom).form = .coin)
    (weighed : r.kind = .weigh) (calibrated : (T.denoms.get r.denom).calibrated = true)
    (apart : (T.denoms.get r.denom).zeroRead < (T.denoms.get r.denom).refRead) :
    T.takeRecord r = .ok ⟨.coin, r.denom, weighCount (T.denoms.get r.denom).zeroRead (T.denoms.get r.denom).refRead
      (T.denoms.get r.denom).refCount r.value⟩ := by
  simp [Tables.takeRecord, Tables.enabled, RecordKind.form, valid, on, form, weighed, calibrated, apart]

end

/-! Check 5 and the commit. -/

theorem Working.add_counts (w : Working) (e : BundleEntry) (d : Fin 32) :
    (w.add e).counts.get d =
      w.counts.get d + if (e.kind != .suspect && e.denom == d) = true then e.count else 0 := by
  by_cases suspect : e.kind = .suspect
  · simp [Working.add, suspect]
  · by_cases here : e.denom = d
    · simp [Working.add, suspect, here]
    · simp [Working.add, suspect, here, Tab.get_set_other _ _ (Ne.symm here)]

theorem Working.add_suspects (w : Working) (e : BundleEntry) (d : Fin 32) :
    (w.add e).suspects.get d =
      w.suspects.get d + if (e.kind == .suspect && e.denom == d) = true then e.count else 0 := by
  by_cases suspect : e.kind = .suspect
  · by_cases here : e.denom = d
    · simp [Working.add, suspect, here]
    · simp [Working.add, suspect, here, Tab.get_set_other _ _ (Ne.symm here)]
  · simp [Working.add, suspect]

/-- Every entry of a bundle is added to its denomination's total (R108). -/
theorem Working.addAll_counts (es : List BundleEntry) (d : Fin 32) : ∀ w : Working,
    (es.foldl Working.add w).counts.get d =
      w.counts.get d + ((es.filter fun b => b.kind != .suspect && b.denom == d).map BundleEntry.count).sum := by
  induction es with
  | nil => simp
  | cons e es ih =>
    intro w
    rw [List.foldl_cons, ih, Working.add_counts, List.filter_cons]
    split <;> simp [Nat.add_assoc]

theorem Working.addAll_suspects (es : List BundleEntry) (d : Fin 32) : ∀ w : Working,
    (es.foldl Working.add w).suspects.get d =
      w.suspects.get d + ((es.filter fun b => b.kind == .suspect && b.denom == d).map BundleEntry.count).sum := by
  induction es with
  | nil => simp
  | cons e es ih =>
    intro w
    rw [List.foldl_cons, ih, Working.add_suspects, List.filter_cons]
    split <;> simp [Nat.add_assoc]

/-- Some total of a bundle's commit is beyond what a count may be (R107). -/
theorem Working.commit_error {w : Working} {C S : Tab Nat 32} (counts : (w.bundle.foldl Working.add w).counts = C)
    (suspects : (w.bundle.foldl Working.add w).suspects = S) (beyond : ∃ d, 9999999 < C.get d ∨ 9999999 < S.get d) :
    w.commit = .error .countLimit := by
  subst counts suspects
  unfold Working.commit
  refine if_pos ?_
  rw [Bool.or_eq_true, Tab.rows_any_iff, Tab.rows_any_iff]
  obtain ⟨d, h | h⟩ := beyond
  · exact .inl ⟨d, decide_eq_true h⟩
  · exact .inr ⟨d, decide_eq_true h⟩

theorem Working.commit_ok {w : Working} {C S : Tab Nat 32} (counts : (w.bundle.foldl Working.add w).counts = C)
    (suspects : (w.bundle.foldl Working.add w).suspects = S) (within : ∀ d, C.get d ≤ 9999999 ∧ S.get d ≤ 9999999) :
    w.commit = .ok ⟨C, S, [], w.committed + 1⟩ := by
  subst counts suspects
  unfold Working.commit
  refine if_neg ?_
  rw [Bool.or_eq_true, Tab.rows_any_iff, Tab.rows_any_iff]
  rintro (⟨d, h⟩ | ⟨d, h⟩)
  · exact absurd (of_decide_eq_true h) (Nat.not_lt.mpr (within d).1)
  · exact absurd (of_decide_eq_true h) (Nat.not_lt.mpr (within d).2)

section
variable {T : Tables} {w : Working} {r : CountRecord} {e : BundleEntry}

theorem Working.take_refused {reason : Reason} (refused : T.takeRecord r = .error reason) :
    w.take T r = .error reason := by
  simp [Working.take, refused]

theorem Working.take_tooLong (taken : T.takeRecord r = .ok e) (long : 64 < w.bundle.length + 1) :
    w.take T r = .error .bundleTooLong := by
  simp [Working.take, taken, long]

theorem Working.take_joins (taken : T.takeRecord r = .ok e) (fits : w.bundle.length + 1 ≤ 64) (more : r.last = false) :
    w.take T r = .ok { w with bundle := w.bundle ++ [e] } := by
  simp [Working.take, taken, more, Nat.not_lt.mpr fits]

theorem Working.take_commits (taken : T.takeRecord r = .ok e) (fits : w.bundle.length + 1 ≤ 64) (last : r.last = true) :
    w.take T r = ({ w with bundle := w.bundle ++ [e] } : Working).commit := by
  simp [Working.take, taken, last, Nat.not_lt.mpr fits]

end

/-- Settles O28: the lane's rule over the walk, the walk record by record, and the six checks on one record. -/
theorem countDataAndItsRecords : Obligations.CountDataAndItsRecords := by
  refine ⟨fun s p b x l rs heard role reads => ?frame, fun T w => ⟨rfl, fun before r w' passed => ?walk⟩,
    fun T r d hd => ?entry, fun T w r => ⟨fun e refused => Working.take_refused refused, fun e taken => ?one⟩⟩
  case frame =>
    have may : x.entry.role.maySend .countData = true := by rw [role]; rfl
    rw [exec_countData]
    refine ⟨fun idle => ?_, fun ss opened => ⟨fun r n fails => ?_, fun w passes => ?_⟩⟩
    · rw [bookFrame_turnedAway heard may reads (countData_idle role idle)]
    · rw [bookFrame_turnedAway heard may reads (countData_refused role opened fails)]
    · rw [bookFrame_laneAccepted heard may reads (countData_accepted role opened passes)]
      simp [State.setSources, Books.setLane, Lane.code, idleTimer, oneByte, beBytes]
  case walk =>
    refine ⟨fun e rest fails => ?_, fun w'' passes => ?_⟩
    · rw [walkRecords_append _ passed, walkRecords_cons_error _ rest fails, Nat.add_comm]
    · rw [walkRecords_append _ passed, walkRecords_cons_ok _ [] passes]
      rfl
  case entry =>
    subst hd
    refine ⟨takeRecord_invalid, fun valid => ⟨takeRecord_disabled valid, fun on =>
      ⟨fun kind => ⟨fun coin => ?_, fun note => ?_⟩, fun kind => ⟨fun note => ?_, fun coin => ?_⟩,
        fun kind => ⟨fun note => ?_, fun coin => ⟨takeRecord_uncalibrated valid on coin kind,
          takeRecord_weighed valid on coin kind⟩⟩⟩⟩⟩
    · exact takeRecord_otherForm valid on (by rcases kind with k | k <;> simp [coin, k, RecordKind.form])
    · rw [takeRecord_counted valid on (by rcases kind with k | k <;> simp [note, k, RecordKind.form])
        (by rcases kind with k | k <;> simp [k])]
      rcases kind with k | k <;> simp [k, RecordKind.held]
    · exact takeRecord_otherForm valid on (by simp [note, kind, RecordKind.form])
    · rw [takeRecord_counted valid on (by simp [coin, kind, RecordKind.form]) (by simp [kind]), kind]
      rfl
    · exact takeRecord_otherForm valid on (by simp [note, kind, RecordKind.form])
  case one =>
    refine ⟨Working.take_tooLong taken, Working.take_joins taken, fun fits last C S totals => ?_⟩
    rw [Working.take_commits taken fits last]
    have counts : ((w.bundle ++ [e]).foldl Working.add { w with bundle := w.bundle ++ [e] }).counts = C :=
      Tab.ext_get fun d => (Working.addAll_counts _ d _).trans (totals d).1.symm
    have suspects : ((w.bundle ++ [e]).foldl Working.add { w with bundle := w.bundle ++ [e] }).suspects = S :=
      Tab.ext_get fun d => (Working.addAll_suspects _ d _).trans (totals d).2.symm
    exact ⟨Working.commit_error counts suspects, Working.commit_ok counts suspects⟩

end Sys2Proof.Machine

/-! ## Creation requests -/

namespace Sys2Proof

theorem Tab.firstIx_isSome_iff {α : Type} {n : Nat} (t : Tab α n) (p : α → Bool) :
    (t.firstIx p).isSome = true ↔ ∃ i, p (t.get i) = true := by
  simp [Tab.firstIx, List.find?_isSome]

end Sys2Proof

namespace Sys2Proof.Machine
open Sys2Proof

/-! ### Numbers in use -/

theorem Books.findLive_isSome_iff (bk : Books) (n : Nat) :
    (bk.findLive n).isSome = true ↔ ∃ i d, bk.deposits.get i = some d ∧ d.state ≠ .closed ∧ d.number = n := by
  simp [Books.findLive, Tab.firstIx_isSome_iff, Option.any_eq_true, Deposit.live]

theorem Books.bagItemCarries_iff (bk : Books) (n : Nat) :
    bk.bagItemCarries n = true ↔ ∃ k src a scanned, (bk.consigns.get k).state ≠ .free ∧
      (⟨.bag n src a, scanned⟩ : ConsignLine) ∈ (bk.consigns.get k).items := by
  unfold Books.bagItemCarries
  rw [Tab.rows_any_iff]
  simp only [Bool.and_eq_true, bne_iff_ne, ne_eq, List.any_eq_true]
  constructor
  · rintro ⟨k, held, ⟨item, scanned⟩, mem, carries⟩
    cases item with
    | bag m src a =>
      obtain rfl : m = n := by simpa using carries
      exact ⟨k, src, a, scanned, held, mem⟩
    | deposit d => simp at carries
  · rintro ⟨k, src, a, scanned, held, mem⟩
    exact ⟨k, held, _, mem, beq_self_eq_true n⟩

/-- R39. -/
theorem Books.numberInUse_iff (bk : Books) (n : Nat) : bk.numberInUse n = true ↔
    (∃ i d, bk.deposits.get i = some d ∧ d.state ≠ .closed ∧ d.number = n) ∨
      ∃ k src a scanned, (bk.consigns.get k).state ≠ .free ∧
        (⟨.bag n src a, scanned⟩ : ConsignLine) ∈ (bk.consigns.get k).items := by
  rw [Books.numberInUse, Bool.or_eq_true, Books.findLive_isSome_iff, Books.bagItemCarries_iff]

/-! ### The record taken -/

theorem Books.allocate_lowest {bk : Books} {i : Fin 512} (empty : bk.deposits.get i = none)
    (lowest : ∀ j, j < i → bk.deposits.get j ≠ none) : bk.allocate = some i := by
  have first : bk.deposits.firstIx (fun d => d.isNone) = some i :=
    Tab.firstIx_eq_some (by simp [empty]) fun j h => by simpa [Option.isSome_iff_ne_none] using lowest j h
  unfold Books.allocate
  rw [first]

/-- With every record in use, the next is the first of the close order (R41). -/
theorem Books.allocate_used {bk : Books} (used : ∀ i, bk.deposits.get i ≠ none) :
    bk.allocate = bk.closeOrder.head? := by
  have nothing : bk.deposits.firstIx (fun d => d.isNone) = none :=
    Tab.firstIx_eq_none fun j => by simpa [Option.isSome_iff_ne_none] using used j
  unfold Books.allocate
  rw [nothing]

theorem Books.create_duplicate {bk : Books} {T : Tables} {tod : Nat} {c : Creation} {m : Move}
    (inUse : bk.numberInUse c.number = true) : bk.create T tod c m = .error .duplicateNumber := by
  simp [Books.create, inUse]

theorem Books.create_full {bk : Books} {T : Tables} {tod : Nat} {c : Creation} {m : Move}
    (fresh : bk.numberInUse c.number = false) (full : bk.allocate = none) :
    bk.create T tod c m = .error .registerFull := by
  simp [Books.create, fresh, full]

/-! ### The list stored -/

@[simp] theorem storedList_get (l : DeclaredList) (c : Fin 4) : (storedList l).get c = declaredAmount l c := by
  simp [storedList]

theorem declaredAmount_named {l : DeclaredList} {c : Fin 4} {n : Nat} (named : (c, n) ∈ l)
    (only : ∀ m, (c, m) ∈ l → m = n) : declaredAmount l c = n := by
  unfold declaredAmount
  cases found : l.find? fun p => p.1 == c with
  | none => exact absurd (beq_self_eq_true c) (List.find?_eq_none.mp found _ named)
  | some p =>
    obtain ⟨e, m⟩ := p
    obtain rfl : e = c := by simpa using List.find?_some found
    simp [only m (List.mem_of_find?_eq_some found)]

theorem declaredAmount_unnamed {l : DeclaredList} {c : Fin 4} (unnamed : ∀ n, (c, n) ∉ l) :
    declaredAmount l c = 0 := by
  have nothing : l.find? (fun p => p.1 == c) = none := by
    rw [List.find?_eq_none]
    rintro ⟨e, n⟩ mem here
    obtain rfl : e = c := by simpa using here
    exact unnamed n mem
  simp [declaredAmount, nothing]

/-- Settles O13: the request by its number, the record allocated and its movement. -/
theorem creationRequestTakesTheRightRecord : Obligations.CreationRequestTakesTheRightRecord := by
  refine ⟨fun bk T tod c m => ⟨Books.create_duplicate, fun fresh used empty => Books.create_full fresh ?full,
    fun fresh i takes => ?taken⟩, Books.numberInUse_iff, fun l c =>
    ⟨fun n named only => (storedList_get l c).trans (declaredAmount_named named only),
      fun unnamed => (storedList_get l c).trans (declaredAmount_unnamed unnamed)⟩⟩
  case full =>
    rw [Books.allocate_used used, empty]
    rfl
  case taken =>
    have free : bk.allocate = some i := by
      rcases takes with ⟨empty, lowest⟩ | ⟨used, rest, order⟩
      · exact Books.allocate_lowest empty lowest
      · rw [Books.allocate_used used, order]
        rfl
    refine ⟨fun r refuses => Books.create_refused fresh free refuses, fun q moves =>
      ⟨_, Books.create_ok fresh free moves, rfl, ⟨c.record T tod, Tab.get_set_same _ _ _, rfl, rfl, rfl, rfl, rfl, rfl,
        rfl, rfl, rfl, rfl, rfl, rfl, rfl, fun carried => ?_, fun delivery => ?_⟩,
        fun j other => Tab.get_set_other _ _ other, rfl, rfl⟩⟩
    · simp [Creation.record, carried]
    · simp [Creation.record, delivery]

end Sys2Proof.Machine

/-! ## Rounding and conversion -/

namespace Sys2Proof.Machine
open Sys2Proof

/-- R10: the rounded quotient by a million is one of the two nearest, and the even one of a tie. -/
theorem roundHalfEven_million (n : Nat) :
    2 * n ≤ (2 * roundHalfEven n 1000000 + 1) * 1000000 ∧ 2 * roundHalfEven n 1000000 * 1000000 ≤ 2 * n + 1000000 ∧
    (2 * n = (2 * roundHalfEven n 1000000 + 1) * 1000000 → roundHalfEven n 1000000 % 2 = 0) ∧
    (2 * roundHalfEven n 1000000 * 1000000 = 2 * n + 1000000 → roundHalfEven n 1000000 % 2 = 0) := by
  unfold roundHalfEven
  split
  · omega
  · split
    · omega
    · split <;> omega

theorem roundHalfEven_multiple (n : Nat) : roundHalfEven (n * 1000000) 1000000 = n := by
  simp [roundHalfEven]

/-- R7: the rounded quotient is at most half above the exact one, and less than half below the next. -/
theorem roundHalfUp_bounds (n : Nat) {d : Nat} (pos : 0 < d) :
    2 * roundHalfUp n d * d ≤ 2 * n + d ∧ 2 * n + d < (2 * roundHalfUp n d + 2) * d := by
  have exact_ := Nat.div_add_mod n d
  have rest := Nat.mod_lt n pos
  have double (q : Nat) : 2 * q * d = 2 * (d * q) := by
    rw [Nat.mul_assoc, Nat.mul_comm q d]
  unfold roundHalfUp
  split
  · rw [Nat.add_mul, double]; omega
  · rw [Nat.add_mul, double, Nat.mul_add]; omega

theorem saturate_fst (x : Int) : (saturate x).1 =
    if 999999999999 < x then 999999999999 else if x < -999999999999 then -999999999999 else x := by
  unfold saturate
  split
  · rfl
  · split <;> rfl

theorem saturate_snd (x : Int) : (saturate x).2 = true ↔ x < -999999999999 ∨ 999999999999 < x := by
  unfold saturate
  split
  · simp [*]
  · split <;> simp [*]

theorem Tables.rate_visitor (T : Tables) {c : Fin 4} (visitor : c ≠ 0) : T.rate c = T.rates.get c := if_neg visitor

theorem Tables.conv_eq (T : Tables) (v : Int) (c : Fin 4) : T.conv v c =
    saturate (if v < 0 then -(roundHalfEven (v.natAbs * (T.rate c).rate) 1000000 : Int)
      else roundHalfEven (v.natAbs * (T.rate c).rate) 1000000) := rfl

theorem weighCount_low {z r : Nat} (w n : Nat) (low : r ≤ z) : weighCount z w n r = 0 := if_pos low

theorem weighCount_high {z r : Nat} (w n : Nat) (high : z < r) :
    weighCount z w n r = min (roundHalfUp ((r - z) * n) (w - z)) 9999999 := if_neg (Nat.not_le.mpr high)

/-- Settles O10: the conversion is its rounded magnitude with the sign and the saturation put on, the weighing its
rounded quotient clamped. -/
theorem conversionAndWeighingRound : Obligations.ConversionAndWeighingRound := by
  refine ⟨fun T v c => ?conv, fun z w n r apart => ⟨weighCount_low w n, fun high =>
    ⟨_, weighCount_high w n high, roundHalfUp_bounds _ (Nat.sub_pos_of_lt apart)⟩⟩⟩
  case conv =>
    obtain ⟨below, above, tieBelow, tieAbove⟩ := roundHalfEven_million (v.natAbs * (T.rate c).rate)
    refine ⟨roundHalfEven (v.natAbs * (T.rate c).rate) 1000000, ?_, ?_, below, above, tieBelow, tieAbove, ?_⟩
    · rw [T.conv_eq, saturate_fst]
      omega
    · rw [T.conv_eq, saturate_snd]
      omega
    · rintro rfl
      exact roundHalfEven_multiple _

/-! ## The base equivalent, committed totals and the close -/

theorem sum_currencies (f : Fin 4 → Int) : ((List.finRange 4).map f).sum = f 0 + f 1 + f 2 + f 3 := by
  simp [List.finRange_succ, Int.add_assoc]

theorem Tables.term_fst (T : Tables) (x : Amounts) (c : Fin 4) :
    (T.term x c).1 = if (T.rate c).enabled = true then (T.conv (x.get c) c).1 else 0 := by
  unfold Tables.term Tables.enabled
  split <;> rfl

theorem Tables.term_snd (T : Tables) (x : Amounts) (c : Fin 4) :
    (T.term x c).2 = true ↔ (T.rate c).enabled = true ∧ (T.conv (x.get c) c).2 = true := by
  unfold Tables.term Tables.enabled
  split <;> simp [*]

/-- R12: the terms are summed exactly, and what is handed back is saturated once. -/
theorem Tables.base_eq (T : Tables) (x : Amounts) {n : Int}
    (sum : n = ((List.finRange 4).map fun c => (T.term x c).1).sum) :
    T.base x = ((saturate n).1, (saturate n).2 || (Quad.tabulate (T.term x)).any Prod.snd) := by
  rw [sum, sum_currencies]
  rfl

section
variable {T : Tables} {counts suspects : Tab Nat 32} {used : Fin 32 → Prop}

/-- The denominations looked at are those with a count or a suspect count (R9; assumption 16). -/
theorem any_used (named : ∀ d, used d ↔ counts.get d ≠ 0 ∨ suspects.get d ≠ 0) (p : Fin 32 → Bool) :
    (((List.finRange 32).filter fun d => counts.get d != 0 || suspects.get d != 0).any p) = true ↔
      ∃ d, used d ∧ p d = true := by
  simp [named]

theorem valueTotals_invalid (named : ∀ d, used d ↔ counts.get d ≠ 0 ∨ suspects.get d ≠ 0)
    (invalid : ∃ d, used d ∧ (T.denoms.get d).valid = false) : T.valueTotals counts suspects = .error .badState :=
  if_pos ((any_used named _).mpr (by simpa using invalid))

theorem valueTotals_valid (named : ∀ d, used d ↔ counts.get d ≠ 0 ∨ suspects.get d ≠ 0)
    (valid : ∀ d, used d → (T.denoms.get d).valid = true) :
    ((∃ d, used d ∧ (T.rate (T.denoms.get d).currency).enabled = false) →
      T.valueTotals counts suspects = .error .currencyDisabled) ∧
    ((∀ d, used d → (T.rate (T.denoms.get d).currency).enabled = true) →
      T.valueTotals counts suspects =
        if (Quad.tabulate (T.faceValue counts)).any (fun v => decide (Config.amax < v)) ||
          (Quad.tabulate (T.faceValue suspects)).any (fun v => decide (Config.amax < v)) then .error .positionLimit
        else .ok (Quad.tabulate (T.faceValue counts), Quad.tabulate (T.faceValue suspects))) := by
  have pass : ¬ (((List.finRange 32).filter fun d => counts.get d != 0 || suspects.get d != 0).any
      fun d => !(T.denoms.get d).valid) = true := by
    rw [any_used named]
    rintro ⟨d, u, invalid⟩
    simp [valid d u] at invalid
  refine ⟨fun off => (if_neg pass).trans (if_pos ?_), fun on => (if_neg pass).trans (if_neg ?_)⟩
  · rw [any_used named]
    simpa [Tables.enabled] using off
  · rw [any_used named]
    rintro ⟨d, u, off⟩
    simp [Tables.enabled, on d u] at off

end

/-- Some currency's face value, of the counts or of the suspect counts, is beyond AMAX (R9). -/
theorem beyond_iff (C S : Amounts) :
    (C.any (fun v => decide (Config.amax < v)) || S.any (fun v => decide (Config.amax < v))) = true ↔
      ∃ c, 999999999999 < C.get c ∨ 999999999999 < S.get c := by
  simp only [Bool.or_eq_true, Quad.any_iff, decide_eq_true_eq, exists_or]

section
variable {T : Tables} {e : Fin 8} {declared : Amounts} {counts suspects : Tab Nat 32}

theorem closeValue_unvalued {r : Reason} (fails : T.valueTotals counts suspects = .error r) :
    T.closeValue e declared counts suspects = .error r := by
  simp [Tables.closeValue, fails]

theorem any_disabled : ((List.finRange 4).any fun i => declared.get i != 0 && !T.enabled i) = true ↔
    ∃ c, declared.get c ≠ 0 ∧ (T.rate c).enabled = false := by
  simp [Tables.enabled]

theorem closeValue_disabled {C S : Amounts} (valued : T.valueTotals counts suspects = .ok (C, S))
    (off : ∃ c, declared.get c ≠ 0 ∧ (T.rate c).enabled = false) :
    T.closeValue e declared counts suspects = .error .currencyDisabled := by
  simp only [Tables.closeValue, valued, any_disabled.mpr off, if_true]

theorem closeValue_ok {C S : Amounts} (valued : T.valueTotals counts suspects = .ok (C, S))
    (on : ∀ c, declared.get c ≠ 0 → (T.rate c).enabled = true) :
    T.closeValue e declared counts suspects = .ok
      ⟨⟨C, S, verdictOf (subLists C declared) (T.base (subLists C declared)).1
          (allowedVariance (T.domains.get e) (T.base declared).1), (T.base (subLists C declared)).1⟩,
        allowedVariance (T.domains.get e) (T.base declared).1,
        (T.base (subLists C declared)).2 || (T.base declared).2⟩ := by
  have pass : ¬ ((List.finRange 4).any fun i => declared.get i != 0 && !T.enabled i) = true := by
    rw [any_disabled]
    rintro ⟨c, named, off⟩
    simp [on c named] at off
  simp only [Tables.closeValue, valued, if_neg pass, subLists]

end

/-! ## The allowed variance and the verdict -/

theorem allowedVariance_nonneg (e : DomainEntry) {dbase : Int} (nonneg : 0 ≤ dbase) : 0 ≤ allowedVariance e dbase := by
  have share : 0 ≤ dbase * e.tppt / 10000 := Int.ediv_nonneg (Int.mul_nonneg nonneg (Int.natCast_nonneg _)) (by decide)
  exact Int.le_min.mpr ⟨Int.add_nonneg (Int.natCast_nonneg _) share, by decide⟩

theorem verdictOf_balanced {v : Amounts} (base allowed : Int) (nothing : ∀ c, v.get c = 0) :
    verdictOf v base allowed = .balanced := by
  have no : v.any (fun x => x != 0) = false := by simp [Quad.any_false_iff, nothing]
  simp [verdictOf, no]

/-- R18: with some variance, the base variance against the allowed one decides. -/
theorem verdictOf_varies {v : Amounts} (base allowed : Int) (some_ : ∃ c, v.get c ≠ 0) :
    verdictOf v base allowed =
      if -allowed ≤ base ∧ base ≤ allowed then .within else if base < -allowed then .short else .over := by
  have yes : v.any (fun x => x != 0) = true := by simpa [Quad.any_iff] using some_
  simp [verdictOf, yes]

/-- Settles O11: base, totals, close and verdict each by the cases of its definition. -/
theorem valuationOfAClose : Obligations.ValuationOfAClose := by
  refine ⟨fun T x n sum => ?base, fun T counts suspects used named => ⟨valueTotals_invalid named, fun valid => ?totals⟩,
    fun T e declared counts suspects => ⟨fun r => closeValue_unvalued, fun C S valued =>
      ⟨closeValue_disabled valued, fun on V allowed variance allowance => ?close⟩⟩,
    fun e dbase base v nonneg => ⟨rfl, allowedVariance_nonneg e nonneg, verdictOf_balanced base _,
      fun varies => ?verdict⟩⟩
  case base =>
    simp only [← Tables.term_fst] at sum
    rw [T.base_eq x sum]
    refine ⟨saturate_fst n, ?_⟩
    simp only [Bool.or_eq_true, saturate_snd, Quad.any_iff, Quad.get_tabulate, Tables.term_snd, or_assoc]
  case totals =>
    obtain ⟨off, on⟩ := valueTotals_valid named valid
    refine ⟨off, fun enabled C S faces => ?_⟩
    obtain rfl : Quad.tabulate (T.faceValue counts) = C :=
      Quad.ext_get fun c => (Quad.get_tabulate _ c).trans (faces c).1.symm
    obtain rfl : Quad.tabulate (T.faceValue suspects) = S :=
      Quad.ext_get fun c => (Quad.get_tabulate _ c).trans (faces c).2.symm
    rw [on enabled]
    refine ⟨fun beyond => if_pos ((beyond_iff _ _).mpr beyond), fun within => if_neg ?_⟩
    rw [beyond_iff]
    rintro ⟨c, h⟩
    have := within c
    omega
  case close =>
    obtain rfl : V = subLists C declared := Quad.ext_get fun c => (variance c).trans (subLists_get C declared c).symm
    subst allowance
    exact closeValue_ok valued on
  case verdict =>
    have := allowedVariance_nonneg e nonneg
    rw [verdictOf_varies base _ varies]
    refine ⟨fun within => if_pos (by omega), fun below => ?_, fun above => ?_⟩
    · rw [if_neg (by omega), if_pos below]
    · rw [if_neg (by omega), if_neg (by omega)]

end Sys2Proof.Machine

/-! ## The fields of an entry -/

namespace Sys2Proof.Machine
open Sys2Proof

@[simp] theorem field_drop (bs : List Byte) (k off n : Nat) : field (bs.drop k) off n = field bs (k + off) n := by
  simp [field, List.drop_drop]

@[simp] theorem field_tail (bs : List Byte) (off n : Nat) : field bs.tail off n = field bs (1 + off) n := by
  rw [← List.drop_one, field_drop]

@[simp] theorem heldBytes_cons (f : EntryField) (fs : List EntryField) (bs : List Byte) : heldBytes (f :: fs) bs =
    beBytes f.size (f.held (field bs 0 f.size)) ++ heldBytes fs (bs.drop f.size) := rfl

@[simp] theorem clampedFields_cons (f : EntryField) (fs : List EntryField) (bs : List Byte) :
    clampedFields (f :: fs) bs =
      (f.clamps && f.held (field bs 0 f.size) != field bs 0 f.size).toNat + clampedFields fs (bs.drop f.size) := rfl

/-- A one-byte field is the byte at its place. -/
theorem field_one (bs : List Byte) (k : Nat) : field bs k 1 = (bs.getD k 0).toNat := by
  unfold field
  rw [List.getD_eq_getElem?_getD, ← List.head?_drop]
  cases bs.drop k <;> simp [beValue]

@[simp] theorem changed_eq (held written : Nat) : (held != written).toNat = changed held written := by
  unfold changed
  split <;> simp [*]

@[simp] theorem number_held (size : Nat) {lo hi : Nat} (v : Nat) (range : lo ≤ hi) :
    (EntryField.number size lo hi).held v = clampTo lo hi v := by
  simp only [EntryField.number, clampTo]
  split
  · omega
  · split <;> omega

@[simp] theorem clampTo_zero (hi v : Nat) : clampTo 0 hi v = min v hi := by
  simp [clampTo]

@[simp] theorem code_held (v : Nat) : (EntryField.code 2).held v = enumHeld v := by
  simp only [EntryField.code, enumHeld]
  split <;> split <;> omega

@[simp] theorem flag_bytes (v : Nat) : beBytes 1 (EntryField.flag.held v) = flagByte (v != 0) := by
  by_cases h : v = 0 <;> simp [EntryField.flag, flagByte, beBytes, h]

theorem amountBytes_nat {v : Nat} (small : v < 2 ^ 64) : amountBytes v = beBytes 8 v := by
  rw [amountBytes, BitVec.ofInt_natCast, BitVec.toNat_ofNat, Nat.mod_eq_of_lt small]

theorem baseField_eq (bs : List Byte) (off : Nat) : baseField bs off = min (field bs off 8) 999999999999 := rfl

theorem baseField_bytes (bs : List Byte) (off : Nat) :
    amountBytes (baseField bs off) = beBytes 8 (min (field bs off 8) 999999999999) :=
  amountBytes_nat (Nat.lt_of_le_of_lt (Nat.min_le_right _ _) (by decide))

@[simp] theorem min_mod (v : Nat) {hi m : Nat} (below : hi < m) : min v hi % m = min v hi :=
  Nat.mod_eq_of_lt (Nat.lt_of_le_of_lt (Nat.min_le_right v hi) below)

/-- A byte sent holds a number's lowest eight bits. -/
theorem beBytes_one_mod (v : Nat) : beBytes 1 (v % 256) = beBytes 1 v := by
  simp [beBytes, ← BitVec.toNat_inj]

theorem lowest_bits (v : Nat) : ((BitVec.ofNat 8 v).getLsbD 0).toNat + 2 * ((BitVec.ofNat 8 v).getLsbD 1).toNat +
    4 * ((BitVec.ofNat 8 v).getLsbD 2).toNat = v % 8 := by
  simp only [BitVec.getLsbD_ofNat, Nat.reduceLT, decide_true, Bool.true_and, Nat.toNat_testBit]
  omega

@[simp] theorem heldBytes_nil (bs : List Byte) : heldBytes [] bs = [] := rfl
@[simp] theorem clampedFields_nil (bs : List Byte) : clampedFields [] bs = 0 := rfl
@[simp] theorem number_size (size lo hi : Nat) : (EntryField.number size lo hi).size = size := rfl
@[simp] theorem number_clamps (size lo hi : Nat) : (EntryField.number size lo hi).clamps = true := rfl
@[simp] theorem code_size (values : Nat) : (EntryField.code values).size = 1 := rfl
@[simp] theorem code_clamps (values : Nat) : (EntryField.code values).clamps = true := rfl
@[simp] theorem flag_size : EntryField.flag.size = 1 := rfl
@[simp] theorem flag_clamps : EntryField.flag.clamps = false := rfl
@[simp] theorem whole_size (size : Nat) : (EntryField.whole size).size = size := rfl
@[simp] theorem whole_held (size v : Nat) : (EntryField.whole size).held v = v := rfl
@[simp] theorem whole_clamps (size : Nat) : (EntryField.whole size).clamps = false := rfl

/-! ## One entry written -/

/-- Indices within a table name different records where they differ. -/
theorem ofNat_ne {n i j : Nat} [NeZero n] (hi : i < n) (hj : j < n) (other : j ≠ i) :
    Fin.ofNat n j ≠ Fin.ofNat n i := by
  intro same
  have := congrArg Fin.val same
  simp only [Fin.val_ofNat, Nat.mod_eq_of_lt hi, Nat.mod_eq_of_lt hj] at this
  exact other this

/-- An entry reads back with every field as its range holds it, and the fields held at another value are counted
(R181). -/
def TableName.Holds (t : TableName) (i : Nat) (bs : List Byte) : Prop :=
  ∀ T : Tables, entryBytes t i (writeEntry t i bs T).1 = heldBytes (t.fields i bs) bs ∧
    (writeEntry t i bs T).2 = clampedFields (t.fields i bs) bs

/-- The calibration fields of a COIN entry with calibration present have ranges (R181). -/
theorem fields_denom_coin {bs : List Byte} (coin : field bs 6 1 = 1 ∧ field bs 7 1 ≠ 0) (i : Nat) :
    TableName.denom.fields i bs = [.flag, .number 1 0 3, .number 4 1 1000000, .code 2, .flag,
      .number 4 0 1048575, .number 4 0 1048575, .number 2 1 10000] := by
  simp only [TableName.fields, ← field_one, if_pos coin]

/-- Those of any other entry have none (R181). -/
theorem fields_denom_other {bs : List Byte} (other : ¬ (field bs 6 1 = 1 ∧ field bs 7 1 ≠ 0)) (i : Nat) :
    TableName.denom.fields i bs = [.flag, .number 1 0 3, .number 4 1 1000000, .code 2, .flag,
      .whole 4, .whole 4, .whole 2] := by
  simp only [TableName.fields, ← field_one, if_neg other]

theorem holds_denom (i : Nat) (bs : List Byte) : TableName.denom.Holds i bs := fun T => by
  by_cases coin : field bs 6 1 = 1 ∧ field bs 7 1 ≠ 0
  · rw [fields_denom_coin coin]
    constructor
    · simp [entryBytes, writeEntry, writeDenom, oneByte, fourBytes, twoBytes, flagField, enumHeld, coin]
    · simp [writeEntry, writeDenom, flagField, coin, Nat.add_assoc]
  · rw [fields_denom_other coin]
    constructor
    · simp [entryBytes, writeEntry, writeDenom, oneByte, fourBytes, twoBytes, flagField, enumHeld, coin]
    · simp [writeEntry, writeDenom, flagField, coin, changed, Nat.add_assoc]

theorem holds_rate {i : Nat} (bs : List Byte) (inside : i < 4) (visitor : i ≠ 0) :
    TableName.rate.Holds i bs := fun T => by
  have soft : Fin.ofNat 4 i ≠ 0 := ofNat_ne (by decide) inside visitor
  constructor
  · simp only [entryBytes, writeEntry, Tables.rate_visitor _ soft, Quad.get_set_same]
    simp [writeRate, TableName.fields, fourBytes, flagField]
  · simp [writeEntry, writeRate, TableName.fields]

theorem holds_tillClass (i : Nat) (bs : List Byte) : TableName.tillClass.Holds i bs := fun T => by
  constructor
  · simp [entryBytes, writeEntry, writeTillClass, baseField_bytes, TableName.fields, twoBytes, oneByte, enumHeld]
  · simp [writeEntry, writeTillClass, baseField_eq, TableName.fields, Nat.add_assoc]

theorem holds_safe (i : Nat) (bs : List Byte) : TableName.safe.Holds i bs := fun T => by
  constructor
  · simp [entryBytes, writeEntry, writeSafe, baseField_bytes, TableName.fields, oneByte, enumHeld]
  · simp [writeEntry, writeSafe, baseField_eq, TableName.fields, Nat.add_assoc]

theorem holds_domain (i : Nat) (bs : List Byte) : TableName.domain.Holds i bs := fun T => by
  constructor
  · simp [entryBytes, writeEntry, writeDomain, TableName.fields, fourBytes, twoBytes]
  · simp [writeEntry, writeDomain, TableName.fields]

theorem holds_staff (i : Nat) (bs : List Byte) : TableName.staff.Holds i bs := fun T => by
  constructor
  · simp only [entryBytes, writeEntry, writeStaff, Tab.get_set_same, oneByte, lowest_bits, BitVec.toNat_ofNat,
      Nat.reducePow, beBytes_one_mod]
    simp [TableName.fields, twoBytes]
  · simp [writeEntry, writeStaff, TableName.fields]

theorem holds_courier (i : Nat) (bs : List Byte) : TableName.courier.Holds i bs := fun T => by
  constructor
  · simp [entryBytes, writeEntry, writeCourier, TableName.fields, twoBytes, flagField]
  · simp [writeEntry, writeCourier, TableName.fields]

theorem holds_schedule (i : Nat) (bs : List Byte) : TableName.schedule.Holds i bs := fun T => by
  constructor
  · simp [entryBytes, writeEntry, writeSchedule, TableName.fields, fourBytes, flagField]
  · simp [writeEntry, writeSchedule, TableName.fields]

theorem holds_dockCfg (i : Nat) (bs : List Byte) : TableName.dockCfg.Holds i bs := fun T => by
  constructor
  · simp [entryBytes, writeEntry, writeDockMode, TableName.fields, oneByte, enumHeld]
  · simp [writeEntry, writeDockMode, TableName.fields]

theorem holds_timing (i : Nat) (bs : List Byte) : TableName.timing.Holds i bs := fun T => by
  constructor
  · simp [entryBytes, writeEntry, writeTiming, TableName.fields, oneByte, twoBytes]
  · simp [writeEntry, writeTiming, TableName.fields, Nat.add_assoc]

/-! A Station entry's role, unit and parameter (R161). -/

theorem unitLimit_other {code : Nat} (till : code ≠ 1) (safe : code ≠ 2) (counter : code ≠ 3) (dock : code ≠ 6) :
    unitLimit code = 0 := by
  unfold unitLimit
  split <;> simp_all

theorem writeStation_role (a : Nat) (bs : List Byte) :
    (writeStation a bs).1.role.code = (EntryField.code 7).held (field bs 0 1) ∧
    (writeStation a bs).1.role.unit = min (field bs 3 1) (unitLimit (field bs 0 1)) ∧
    (writeStation a bs).1.role.param = min (field bs 4 1) (if field bs 0 1 = 1 then 7 else 0) := by
  unfold writeStation EntryField.code
  generalize field bs 0 1 = code
  dsimp only
  split
  case h_7 till safe counter _ _ dock =>
    rw [unitLimit_other till safe counter dock, if_neg till]
    refine ⟨?_, (Nat.min_zero _).symm, (Nat.min_zero _).symm⟩
    grind [Role.code]
  all_goals simp [Role.code, Role.unit, Role.param, unitLimit]

theorem byte_eq_iff {i k : Nat} (hi : i < 256) (hk : k < 256) : BitVec.ofNat 8 i = BitVec.ofNat 8 k ↔ i = k := by
  simp [← BitVec.toNat_inj, Nat.mod_eq_of_lt hi, Nat.mod_eq_of_lt hk]

theorem Tables.station_role (T : Tables) {i : Nat} (inside : i < 256) : (T.station (BitVec.ofNat 8 i)).role =
    if i = 0 ∨ i = 255 then .none else (T.stations.get (Fin.ofNat 256 i)).role := by
  have place : (BitVec.ofNat 8 i = 0 ∨ BitVec.ofNat 8 i = 255) ↔ (i = 0 ∨ i = 255) :=
    or_congr (byte_eq_iff inside (by decide)) (byte_eq_iff inside (by decide))
  unfold Tables.station
  simp only [place]
  split <;> rfl

theorem fields_station (i : Nat) (bs : List Byte) : TableName.station.fields i bs =
    [if i = 0 ∨ i = 255 then ⟨1, fun _ => 0, true⟩ else .code 7, .number 1 0 3, .number 1 0 7,
      .number 1 0 (unitLimit (field bs 0 1)), .number 1 0 (if field bs 0 1 = 1 then 7 else 0), .flag] := by
  simp only [TableName.fields, ← field_one]

theorem holds_station {i : Nat} (bs : List Byte) (inside : i < 256) : TableName.station.Holds i bs := fun T => by
  obtain ⟨code, unit, param⟩ := writeStation_role i bs
  have segment : (writeStation i bs).1.segment.val = min (field bs 1 1) 3 := min_mod _ (by decide)
  have domain : (writeStation i bs).1.domain.val = min (field bs 2 1) 7 := min_mod _ (by decide)
  have pass : (writeStation i bs).1.pass = (field bs 5 1 != 0) := rfl
  have count : (writeStation i bs).2 =
      changed (if i = 0 ∨ i = 255 then 0 else (writeStation i bs).1.role.code) (field bs 0 1) +
        changed (min (field bs 1 1) 3) (field bs 1 1) + changed (min (field bs 2 1) 7) (field bs 2 1) +
        changed (writeStation i bs).1.role.unit (field bs 3 1) +
        changed (writeStation i bs).1.role.param (field bs 4 1) := rfl
  rw [fields_station]
  by_cases hard : i = 0 ∨ i = 255
  · constructor
    · simp [entryBytes, writeEntry, Tables.station_role _ inside, hard, Role.code, segment, domain, unit, param, pass,
        oneByte]
    · simp [writeEntry, count, hard, unit, param, Nat.add_assoc]
  · constructor
    · simp [entryBytes, writeEntry, Tables.station_role _ inside, hard, code, segment, domain, unit, param, pass,
        oneByte]
    · simp [writeEntry, count, hard, code, unit, param, Nat.add_assoc]

/-- R181: every entry within its table is held field by field; RATE entry 0 is never written. -/
theorem writeEntry_holds {t : TableName} {i : Nat} (bs : List Byte) (inside : i < t.entries)
    (soft : t = .rate → i ≠ 0) : t.Holds i bs := by
  cases t with
  | station => exact holds_station bs inside
  | denom => exact holds_denom i bs
  | rate => exact holds_rate bs inside (soft rfl)
  | tillClass => exact holds_tillClass i bs
  | safe => exact holds_safe i bs
  | domain => exact holds_domain i bs
  | staff => exact holds_staff i bs
  | courier => exact holds_courier i bs
  | schedule => exact holds_schedule i bs
  | dockCfg => exact holds_dockCfg i bs
  | timing => exact holds_timing i bs

end Sys2Proof.Machine

/-! ## Entries other than the one written -/

namespace Sys2Proof.Machine
open Sys2Proof

theorem entryBytes_otherIndex {t : TableName} {i j : Nat} (bs : List Byte) (T : Tables) (hi : i < t.entries)
    (hj : j < t.entries) (other : j ≠ i) : entryBytes t j (writeEntry t i bs T).1 = entryBytes t j T := by
  cases t with
  | station =>
    simp only [entryBytes, writeEntry, Tables.station_role _ hj,
      Tab.get_set_other _ _ (ofNat_ne (n := 256) hi hj other)]
  | denom => simp only [entryBytes, writeEntry, Tab.get_set_other _ _ (ofNat_ne (n := 32) hi hj other)]
  | rate => simp only [entryBytes, writeEntry, Tables.rate, Quad.get_set_other _ _ (ofNat_ne (n := 4) hi hj other)]
  | tillClass => simp only [entryBytes, writeEntry, Tab.get_set_other _ _ (ofNat_ne (n := 8) hi hj other)]
  | safe => simp only [entryBytes, writeEntry, Tab.get_set_other _ _ (ofNat_ne (n := 16) hi hj other)]
  | domain => simp only [entryBytes, writeEntry, Tab.get_set_other _ _ (ofNat_ne (n := 8) hi hj other)]
  | staff => simp only [entryBytes, writeEntry, Tab.get_set_other _ _ (ofNat_ne (n := 64) hi hj other)]
  | courier => simp only [entryBytes, writeEntry, Tab.get_set_other _ _ (ofNat_ne (n := 32) hi hj other)]
  | schedule => simp only [entryBytes, writeEntry, Tab.get_set_other _ _ (ofNat_ne (n := 16) hi hj other)]
  | dockCfg => simp only [entryBytes, writeEntry, Tab.get_set_other _ _ (ofNat_ne (n := 2) hi hj other)]
  | timing => exact absurd ((Nat.lt_one_iff.mp hj).trans (Nat.lt_one_iff.mp hi).symm) other

/-- A write replaces records of its own table alone. -/
theorem entryBytes_otherTable {t u : TableName} (i j : Nat) (bs : List Byte) (T : Tables) (other : u ≠ t) :
    entryBytes u j (writeEntry t i bs T).1 = entryBytes u j T := by
  cases t <;> cases u <;> trivial

theorem entryBytes_other {t u : TableName} {i j : Nat} (bs : List Byte) (T : Tables) (hi : i < t.entries)
    (hj : j < u.entries) (other : u ≠ t ∨ j ≠ i) : entryBytes u j (writeEntry t i bs T).1 = entryBytes u j T := by
  by_cases same : u = t
  · subst same
    exact entryBytes_otherIndex bs T hi hj (other.resolve_left fun h => h rfl)
  · exact entryBytes_otherTable i j bs T same

/-! ## The entries of a content written in order -/

/-- The bytes at the place of a content's `k`-th entry (R180). -/
def TableName.slice (t : TableName) (content : List Byte) (k : Nat) : List Byte :=
  (content.drop (k * t.entrySize)).take t.entrySize

theorem slice_zero (t : TableName) (content : List Byte) : t.slice content 0 = content.take t.entrySize := by
  simp [TableName.slice]

theorem slice_succ (t : TableName) (content : List Byte) (k : Nat) :
    t.slice content (k + 1) = t.slice (content.drop t.entrySize) k := by
  rw [TableName.slice, TableName.slice, List.drop_drop, Nat.succ_mul, Nat.add_comm]

theorem writeEntries_cons (t : TableName) (i : Nat) (is : List Nat) (content : List Byte) (T : Tables) :
    writeEntries t (i :: is) content T =
      ((writeEntries t is (content.drop t.entrySize) (writeEntry t i (t.slice content 0) T).1).1,
        (writeEntry t i (t.slice content 0) T).2 +
          (writeEntries t is (content.drop t.entrySize) (writeEntry t i (t.slice content 0) T).1).2) := by
  rw [slice_zero]
  rfl

/-- An entry that no index names reads as before. -/
theorem writeEntries_other {t u : TableName} {j : Nat} (hj : j < u.entries) {is : List Nat} :
    ∀ (content : List Byte) (T : Tables), (∀ i ∈ is, i < t.entries) → u ≠ t ∨ j ∉ is →
      entryBytes u j (writeEntries t is content T).1 = entryBytes u j T := by
  induction is with
  | nil => intros; rfl
  | cons i is ih =>
    intro content T inside other
    rw [writeEntries_cons, ih _ _ (fun k h => inside k (List.mem_cons_of_mem _ h))
      (other.imp_right fun h mem => h (List.mem_cons_of_mem _ mem))]
    exact entryBytes_other _ _ (inside i List.mem_cons_self) hj
      (other.imp_right fun h same => h (same ▸ List.mem_cons_self))

/-- Each entry named once reads back as its own bytes are held (R181). -/
theorem writeEntries_held {t : TableName} {is : List Nat} : ∀ (content : List Byte) (T : Tables), is.Nodup →
    (∀ i ∈ is, i < t.entries) → (t = .rate → 0 ∉ is) → ∀ (k : Nat) (h : k < is.length),
      entryBytes t is[k] (writeEntries t is content T).1 =
        heldBytes (t.fields is[k] (t.slice content k)) (t.slice content k) := by
  induction is with
  | nil => intro _ _ _ _ _ k h; exact absurd h (Nat.not_lt_zero k)
  | cons i is ih =>
    intro content T once inside soft k h
    obtain ⟨fresh, once⟩ := List.nodup_cons.mp once
    have first := inside i List.mem_cons_self
    have rest : ∀ j ∈ is, j < t.entries := fun j mem => inside j (List.mem_cons_of_mem _ mem)
    rw [writeEntries_cons]
    cases k with
    | zero =>
      rw [List.getElem_cons_zero, writeEntries_other first _ _ rest (.inr fresh)]
      exact (writeEntry_holds _ first (fun rate zero => soft rate (zero ▸ List.mem_cons_self)) T).1
    | succ k =>
      rw [List.getElem_cons_succ, slice_succ]
      exact ih _ _ once rest (fun rate mem => soft rate (List.mem_cons_of_mem _ mem)) k (Nat.lt_of_succ_lt_succ h)

/-- The fields clamped are counted entry by entry (R181). -/
theorem writeEntries_clamped {t : TableName} {is : List Nat} : ∀ (content : List Byte) (T : Tables),
    (∀ i ∈ is, i < t.entries) → (t = .rate → 0 ∉ is) →
      (writeEntries t is content T).2 = ((List.range is.length).map fun k =>
        clampedFields (t.fields (is.getD k 0) (t.slice content k)) (t.slice content k)).sum := by
  induction is with
  | nil => intros; rfl
  | cons i is ih =>
    intro content T inside soft
    have held := (writeEntry_holds (t.slice content 0) (inside i List.mem_cons_self)
      (fun rate zero => soft rate (zero ▸ List.mem_cons_self)) T).2
    rw [writeEntries_cons, List.length_cons, List.range_succ_eq_map, List.map_cons, List.map_map, List.sum_cons, held,
      ih _ _ (fun k h => inside k (List.mem_cons_of_mem _ h)) fun rate mem => soft rate (List.mem_cons_of_mem _ mem)]
    simp only [Function.comp_def, slice_succ, List.getD_cons_zero, List.getD_cons_succ]

/-- Settles O52: the writes by induction on the entries, each held field by field; the hard-wired entries as read. -/
theorem writtenEntriesAreClamped : Obligations.WrittenEntriesAreClamped := by
  refine ⟨fun t is content T T' n once inside soft _ written => ?_, fun T => ⟨rfl, rfl, rfl, rfl⟩⟩
  obtain ⟨rfl, rfl⟩ := Prod.mk.inj written
  refine ⟨?_, writeEntries_clamped content T inside soft, fun u j hj other =>
    writeEntries_other hj content T inside other⟩
  rintro k h slice rfl
  exact writeEntries_held content T once inside soft k h

end Sys2Proof.Machine

/-! ## Overdue timers and the purge -/

namespace Sys2Proof

theorem Tab.count_eq {α : Type} {n : Nat} (t : Tab α n) (p : α → Bool) :
    t.count p = ((List.finRange n).filter fun i => p (t.get i)).length := by
  rw [Tab.count, t.rows_eq, List.filter_map, List.length_map]
  rfl

end Sys2Proof

namespace Sys2Proof.Machine
open Sys2Proof

theorem bookExpiry_due {f : Books → Option (Accepted Books)} {s : State} {a : Accepted Books}
    (due : f s.books = some a) : bookExpiry f s = (s.withBooks a.next).setSources a.sources := by
  simp [bookExpiry, due, State.withBooks]

theorem bookExpiry_running {f : Books → Option (Accepted Books)} {s : State} (running : f s.books = none) :
    bookExpiry f s = s := by
  simp [bookExpiry, running]

theorem exec_carryTimerExpiry (i : Fin 512) (s : State) :
    exec (.carryTimerExpiry i) s = .next (bookExpiry (carryExpiry i) s) := rfl

theorem exec_pickupTimerExpiry (t : Fin 160) (s : State) :
    exec (.pickupTimerExpiry t) s = .next (bookExpiry (pickupExpiry t) s) := rfl

theorem carryExpiry_due {bk : Books} {i : Fin 512} {d : Deposit} (used : bk.deposits.get i = some d)
    (carried : d.state = .carried) (down : d.carry = some 0) : carryExpiry i bk =
      some { next := bk.setDeposit i { d with carry := none, overdue := true }, sources := [.carryOverdue] } := by
  simp [carryExpiry, used, carried, down]

theorem carryExpiry_running {bk : Books} {i : Fin 512} {d : Deposit} (used : bk.deposits.get i = some d)
    (running : d.carry ≠ some 0) : carryExpiry i bk = none := by
  simp [carryExpiry, used, running]

theorem pickupExpiry_due {bk : Books} {t : Fin 160} {k : Timer} (timed : (bk.tills.get t).timer = some k)
    (due : (bk.tills.get t).state = .pickupDue) (down : k.remaining = 0) : pickupExpiry t bk =
      some { next := bk.setTill t { bk.tills.get t with state := .pickupOverdue, timer := none }
             sources := [.pickupOverdue] } := by
  obtain ⟨remaining, full⟩ := k
  subst down
  simp [pickupExpiry, timed, due]

theorem pickupExpiry_running {bk : Books} {t : Fin 160} {k : Timer} (timed : (bk.tills.get t).timer = some k)
    (running : k.remaining ≠ 0) : pickupExpiry t bk = none := by
  obtain ⟨remaining, full⟩ := k
  cases remaining with
  | zero => exact absurd rfl running
  | succ _ => simp [pickupExpiry, timed]

/-- Settles O14: each expiry's rule over its record, by whether the timer stands at 0. -/
theorem overdueExpiries : Obligations.OverdueExpiries := by
  refine ⟨fun s i d used => ⟨fun carried down => ?_, fun running => ?_⟩,
    fun s t k timed => ⟨fun due down => ?_, fun running => ?_⟩⟩
  · rw [exec_carryTimerExpiry, bookExpiry_due (carryExpiry_due used carried down)]
    rfl
  · rw [exec_carryTimerExpiry, bookExpiry_running (carryExpiry_running used running)]
  · rw [exec_pickupTimerExpiry, bookExpiry_due (pickupExpiry_due timed due down)]
    rfl
  · rw [exec_pickupTimerExpiry, bookExpiry_running (pickupExpiry_running timed running)]

/-! ### PURGE_CLOSED -/

theorem exec_purgeClosed {s : State} {c : Command} (head : s.AtHead c 0x03) (empty : c.params = [])
    (room : s.ReplyRoom) : exec .purgeClosed s = .next ((s.withBooks (purgeClosed s.books).1).completed c none
      (twoBytes (purgeClosed s.books).2)) :=
  congrArg _ (queuedBooks_accepted head (readNothing_nil empty) room rfl)

theorem purgeClosed_get_closed {bk : Books} {i : Fin 512} {d : Deposit} (used : bk.deposits.get i = some d)
    (closed : d.state = .closed) : (purgeClosed bk).1.deposits.get i = none := by
  simp [purgeClosed, used, closed]

theorem purgeClosed_get_kept {bk : Books} {i : Fin 512}
    (kept : ∀ d, bk.deposits.get i = some d → d.state ≠ .closed) :
    (purgeClosed bk).1.deposits.get i = bk.deposits.get i := by
  cases used : bk.deposits.get i with
  | none => simp [purgeClosed, used]
  | some d => simp [purgeClosed, used, kept d used]

/-- Settles O15: the records after the purge one by one, and their number as the table counts it. -/
theorem purgeEmptiesClosedRecords : Obligations.PurgeEmptiesClosedRecords := fun s _ head empty room =>
  ⟨(purgeClosed s.books).1.deposits, (purgeClosed s.books).2,
    fun _ => ⟨fun _ => purgeClosed_get_closed, purgeClosed_get_kept⟩,
    s.books.deposits.count_eq _, exec_purgeClosed head empty room⟩

end Sys2Proof.Machine

/-! ## COUNT_OPEN -/

namespace Sys2Proof.Machine
open Sys2Proof

/-- A heard frame whose owner refuses it with a report is turned away, then reported (R80, R103, R164). -/
theorem bookFrame_reported {α : Type} {k : OwnedKind} {parse : List Byte → Option α}
    {own : Ctx → α → Books → Ruling Books} {p : Fin 4} {b : FrameBody} {s : State} {x : Ctx} {a : α} {r : Reason}
    (heard : s.Heard k p b x) (role : x.entry.role.maySend k = true) (reads : parse b.payload = some a)
    (refuses : own x a s.books = .reported r s.books) :
    bookFrame k parse own p b s = (s.turnedAway x r 0 []).report x.src (.s x.port) x.kind r := by
  rw [bookFrame_heard heard role reads, refuses]
  exact settle_refuse x r 0 [] .report s

theorem exec_countOpen (p : Fin 4) (b : FrameBody) (s : State) :
    exec (.countOpen p b) s = .next (bookFrame .countOpen readDepositStaff countOpen p b s) := rfl

/-! R43: a claim. -/

theorem Books.claim_empty {bk : Books} {i : Fin 512} (required : DepositState) (otherLive gone : Reason)
    (empty : bk.deposits.get i = none) : bk.claim i required otherLive gone = .error gone := by
  simp [Books.claim, empty]

section
variable {bk : Books} {i : Fin 512} {d : Deposit} {required : DepositState}

theorem Books.claim_closed (otherLive gone : Reason) (used : bk.deposits.get i = some d)
    (closed : d.state = .closed) (live : required ≠ .closed) :
    bk.claim i required otherLive gone = .error gone := by
  simp [Books.claim, used, closed, live.symm]

theorem Books.claim_otherLive (otherLive gone : Reason) (used : bk.deposits.get i = some d)
    (other : d.state ≠ required) (live : d.state ≠ .closed) :
    bk.claim i required otherLive gone = .error otherLive := by
  simp [Books.claim, used, other, live]

theorem Books.claim_ok (otherLive gone : Reason) (used : bk.deposits.get i = some d)
    (here : d.state = required) : bk.claim i required otherLive gone = .ok d := by
  simp [Books.claim, used, here]

end

section
variable {x : Ctx} {bk : Books} {l : Fin 6} {q : DepositStaff}

theorem countOpen_busy (role : x.entry.role = .counter l) (opened : (bk.lanes.get l).session ≠ none) :
    countOpen x q bk = .no .laneBusy bk := by
  simp [countOpen, role, Option.isSome_iff_ne_none.mpr opened]

theorem countOpen_staff (role : x.entry.role = .counter l) (idle : (bk.lanes.get l).session = none)
    (fails : x.tab.staffPasses q.staff x.entry.domain (·.counter) = false) :
    countOpen x q bk = .reported .staffNotPermitted bk := by
  simp [countOpen, role, idle, fails]

theorem countOpen_unclaimed {r : Reason} (role : x.entry.role = .counter l)
    (idle : (bk.lanes.get l).session = none)
    (passes : x.tab.staffPasses q.staff x.entry.domain (·.counter) = true)
    (refuses : bk.claim q.deposit .awaitingCount .depositBusy .unknownDeposit = .error r) :
    countOpen x q bk = .no r bk := by
  simp [countOpen, role, idle, passes, refuses]

/-- R104, R105: the deposit held by the lane, which opens with no counts. -/
theorem countOpen_claimed {d : Deposit} (role : x.entry.role = .counter l)
    (idle : (bk.lanes.get l).session = none)
    (passes : x.tab.staffPasses q.staff x.entry.domain (·.counter) = true)
    (claims : bk.claim q.deposit .awaitingCount .depositBusy .unknownDeposit = .ok d) :
    countOpen x q bk = laneAccepted l
      ((bk.setDeposit q.deposit
          { d with state := .counting, holder := some (.lane l), countingStaff := some q.staff }).setLane l
        { Lane.idle with session := some ⟨q.deposit, q.staff, idleTimer x.tab⟩ })
      (twoBytes q.deposit.val ++ oneByte d.kind.code ++ fourBytes d.number) [] := by
  simp [countOpen, role, idle, passes, claims]

end

/-- Settles O27: the lane's rule by its session, the staff check and the claim, then the frame's answer. -/
theorem countOpenOpensTheLane : Obligations.CountOpenOpensTheLane := by
  intro s p b x l q heard role reads
  have may : x.entry.role.maySend .countOpen = true := by rw [role]; rfl
  rw [exec_countOpen]
  refine ⟨fun opened => ?busy, fun idle => ⟨fun fails => ?staff, fun passes => ⟨fun empty => ?empty,
    fun d used => ⟨fun closed => ?closed, fun other live => ?otherLive, fun awaits => ?claimed⟩⟩⟩⟩
  case busy => rw [bookFrame_turnedAway heard may reads (countOpen_busy role opened)]
  case staff => rw [bookFrame_reported heard may reads (countOpen_staff role idle fails)]
  case empty =>
    rw [bookFrame_turnedAway heard may reads (countOpen_unclaimed role idle passes (Books.claim_empty _ _ _ empty))]
  case closed =>
    rw [bookFrame_turnedAway heard may reads
      (countOpen_unclaimed role idle passes (Books.claim_closed _ _ used closed (by decide)))]
  case otherLive =>
    rw [bookFrame_turnedAway heard may reads
      (countOpen_unclaimed role idle passes (Books.claim_otherLive _ _ used other live))]
  case claimed =>
    rw [bookFrame_laneAccepted heard may reads (countOpen_claimed role idle passes (Books.claim_ok _ _ used awaits))]
    simp [State.setSources, Books.setDeposit, Books.setLane, Lane.code, Lane.idle, idleTimer, oneByte, beBytes]

end Sys2Proof.Machine

/-! ## Drops -/

namespace Sys2Proof.Machine
open Sys2Proof

theorem exec_dropRequest (p : Fin 4) (b : FrameBody) (s : State) :
    exec (.dropRequest p b) s = .next (bookFrame .dropRequest readContainerNumber dropRequest p b s) := rfl

theorem exec_dropDone (p : Fin 4) (b : FrameBody) (s : State) :
    exec (.dropDone p b) s = .next (bookFrame .dropDone readContainerNumber dropDone p b s) := rfl

theorem exec_dropCancel (p : Fin 4) (b : FrameBody) (s : State) :
    exec (.dropCancel p b) s = .next (bookFrame .dropCancel readContainerNumber dropCancel p b s) := rfl

theorem exec_grantTimerExpiry (i : Fin 16) (s : State) :
    exec (.grantTimerExpiry i) s = .next (bookExpiry (grantExpiry i) s) := rfl

/-- A heard frame whose owner refuses it with other records, and nothing to follow, is turned away with them (R84). -/
theorem bookFrame_turnedAway_with {α : Type} {k : OwnedKind} {parse : List Byte → Option α}
    {own : Ctx → α → Books → Ruling Books} {p : Fin 4} {b : FrameBody} {s : State} {x : Ctx} {a : α} {r : Reason}
    {place : Nat} {result : List Byte} {bk : Books} (heard : s.Heard k p b x)
    (role : x.entry.role.maySend k = true) (reads : parse b.payload = some a)
    (refuses : own x a s.books = .refuse r place result .nothing bk) :
    bookFrame k parse own p b s = (s.withBooks bk).turnedAway x r place result := by
  rw [bookFrame_heard heard role reads, refuses]
  exact settle_refuse x r place result .nothing _

/-- A heard frame that its safe accepts is answered with what the kind adds and the safe after the frame (R80). -/
theorem bookFrame_safeAccepted {α : Type} {k : OwnedKind} {parse : List Byte → Option α}
    {own : Ctx → α → Books → Ruling Books} {p : Fin 4} {b : FrameBody} {s : State} {x : Ctx} {a : α} {i : Fin 16}
    {bk : Books} {f : Safe} {result : List Byte} {sources : List Source} (heard : s.Heard k p b x)
    (role : x.entry.role.maySend k = true) (reads : parse b.payload = some a)
    (accepts : own x a s.books = safeAccepted i (bk.setSafe i f) result sources) :
    bookFrame k parse own p b s =
      ((s.withBooks (bk.setSafe i f)).setSources sources).accepted x (result ++ f.summary) := by
  have after : (bk.setSafe i f).safes.get i = f := by simp
  rw [safeAccepted, after] at accepts
  exact bookFrame_accepted heard role reads accepts

/-! ### DROP_REQUEST -/

section
variable {x : Ctx} {bk : Books} {i : Fin 16} {n : Nat} {side : BagSide}

theorem dropRequest_stopped (role : x.entry.role = .safe i) (stopped : (bk.safes.get i).state = .stopped) :
    dropRequest x n bk = .no .safeStopped bk := by
  simp [dropRequest, role, stopped]

theorem dropRequest_busy (role : x.entry.role = .safe i) (running : (bk.safes.get i).state = .running)
    (active : (bk.safes.get i).activeSide = some side) (reserved : (bk.safes.get i).reservation ≠ none) :
    dropRequest x n bk = .no .safeBusy bk := by
  simp [dropRequest, role, running, active, Option.isSome_iff_ne_none.mpr reserved]

theorem dropRequest_unknown (role : x.entry.role = .safe i) (running : (bk.safes.get i).state = .running)
    (active : (bk.safes.get i).activeSide = some side) (free : (bk.safes.get i).reservation = none)
    (unknown : bk.carriedPouch n = none) : dropRequest x n bk = .no .unknownPouch bk := by
  simp [dropRequest, role, running, active, free, unknown]

theorem dropRequest_full {d : Fin 512} (role : x.entry.role = .safe i) (running : (bk.safes.get i).state = .running)
    (active : (bk.safes.get i).activeSide = some side) (free : (bk.safes.get i).reservation = none)
    (pouch : bk.carriedPouch n = some d) (full : 40 < ((bk.safes.get i).bag side).pouches.length + 1) :
    dropRequest x n bk = .no .safeFull bk := by
  simp [dropRequest, role, running, active, free, pouch, full]

theorem dropRequest_granted {d : Fin 512} (role : x.entry.role = .safe i)
    (running : (bk.safes.get i).state = .running) (active : (bk.safes.get i).activeSide = some side)
    (free : (bk.safes.get i).reservation = none) (pouch : bk.carriedPouch n = some d)
    (room : ((bk.safes.get i).bag side).pouches.length + 1 ≤ 40) : dropRequest x n bk = safeAccepted i
      (bk.setSafe i { bk.safes.get i with reservation := some ⟨n, d, side, x.tab.timing.dropGrant⟩ })
      (oneByte i.val ++ oneByte side.code ++ twoBytes x.tab.timing.dropGrant ++ twoBytes d.val) [] := by
  simp [dropRequest, role, running, active, free, pouch, Nat.not_lt.mpr room]

end

/-- R44, R81: the live record of a number is the pouch where it is CARRIED. -/
theorem Books.carriedPouch_live {bk : Books} {n : Nat} {i : Fin 512} {d : Deposit}
    (used : bk.deposits.get i = some d) (found : bk.findLive n = some i) :
    bk.carriedPouch n = if d.state = .carried then some i else none := by
  unfold Books.carriedPouch
  rw [found]
  simp [used]

theorem Books.carriedPouch_none {bk : Books} {n : Nat} (unfound : bk.findLive n = none) :
    bk.carriedPouch n = none := by
  unfold Books.carriedPouch
  rw [unfound]

/-- R78: the collection-ready flag is set where some position is FULL. -/
theorem Safe.collectionReady_byte (f : Safe) :
    flagByte f.collectionReady = [if f.bagA.state = .full ∨ f.bagB.state = .full then 1 else 0] := by
  simp [flagByte, Safe.collectionReady]

theorem Safe.activeSide_eq {f : Safe} {side : BagSide} (active : (f.bag side).state = .active)
    (other : (f.bag side.other).state ≠ .active) : f.activeSide = some side := by
  cases side with
  | a => exact if_pos active
  | b => exact (if_neg other).trans (if_pos active)

/-- Settles O22: the safe's rule by its state, its reservation, the pouch and the bag's room, then the frame's answer. -/
theorem dropRequestReservesThePosition : Obligations.DropRequestReservesThePosition := by
  refine ⟨⟨fun s p b x i n heard role reads => ?frame, fun bk n => ⟨fun i d used live carries first =>
    Books.carriedPouch_live used (Books.findLive_first used live carries first),
    fun others => Books.carriedPouch_none (Books.findLive_none others)⟩⟩,
    fun f => ⟨by rw [Safe.summary, f.collectionReady_byte], fun side => Safe.activeSide_eq⟩⟩
  have may : x.entry.role.maySend .dropRequest = true := by rw [role]; rfl
  rw [exec_dropRequest]
  refine ⟨fun stopped => ?_, fun side running active => ⟨fun reserved => ?_, fun free => ⟨fun unknown => ?_,
    fun d pouch => ⟨fun full => ?_, fun room => ?_⟩⟩⟩⟩
  · rw [bookFrame_turnedAway heard may reads (dropRequest_stopped role stopped)]
  · rw [bookFrame_turnedAway heard may reads (dropRequest_busy role running active reserved)]
  · rw [bookFrame_turnedAway heard may reads (dropRequest_unknown role running active free unknown)]
  · rw [bookFrame_turnedAway heard may reads (dropRequest_full role running active free pouch full)]
  · rw [bookFrame_safeAccepted heard may reads (dropRequest_granted role running active free pouch room)]
    rfl

/-! ### DROP_DONE, DROP_CANCEL and the grant timer -/

section
variable {bk : Books} {r : Reservation}

theorem Books.claimDrop_empty (empty : bk.deposits.get r.deposit = none) :
    bk.claimDrop r = .error .unknownPouch := by
  simp [Books.claimDrop, empty]

variable {d : Deposit}

theorem Books.claimDrop_unknown (used : bk.deposits.get r.deposit = some d)
    (gone : d.state = .closed ∨ d.number ≠ r.number) : bk.claimDrop r = .error .unknownPouch := by
  rcases gone with closed | other
  · simp [Books.claimDrop, used, Deposit.live, closed]
  · simp [Books.claimDrop, used, other]

theorem Books.claimDrop_carried (used : bk.deposits.get r.deposit = some d) (same : d.number = r.number)
    (carried : d.state = .carried) : bk.claimDrop r = .ok d := by
  simp [Books.claimDrop, used, same, Deposit.live, carried]

theorem Books.claimDrop_busy (used : bk.deposits.get r.deposit = some d) (same : d.number = r.number)
    (other : d.state ≠ .carried) (live : d.state ≠ .closed) : bk.claimDrop r = .error .depositBusy := by
  simp [Books.claimDrop, used, same, Deposit.live, live, other]

end

section
variable {x : Ctx} {bk : Books} {i : Fin 16} {n : Nat}

theorem dropDone_notGranted (role : x.entry.role = .safe i)
    (without : ∀ r, (bk.safes.get i).reservation = some r → r.number ≠ n) :
    dropDone x n bk = .no .notGranted bk := by
  cases reserved : (bk.safes.get i).reservation with
  | none => simp [dropDone, role, reserved]
  | some r => simp [dropDone, role, reserved, without r reserved]

theorem dropCancel_notGranted (role : x.entry.role = .safe i)
    (without : ∀ r, (bk.safes.get i).reservation = some r → r.number ≠ n) :
    dropCancel x n bk = .no .notGranted bk := by
  cases reserved : (bk.safes.get i).reservation with
  | none => simp [dropCancel, role, reserved]
  | some r => simp [dropCancel, role, reserved, without r reserved]

variable {r : Reservation}

/-- R84: a claim refused ends the reservation all the same. -/
theorem dropDone_unclaimed {e : Reason} (role : x.entry.role = .safe i)
    (reserved : (bk.safes.get i).reservation = some r) (same : r.number = n) (refuses : bk.claimDrop r = .error e) :
    dropDone x n bk =
      .refuse e 0 [] .nothing (bk.setSafe i { bk.safes.get i with reservation := none }) := by
  simp [dropDone, role, reserved, same, refuses]

/-- R83: the pouch joins the bag, the swap test runs, and the deposit is the safe's. -/
theorem dropDone_claimed {d : Deposit} {g : Bag} {f : Safe} {sources : List Source}
    (role : x.entry.role = .safe i) (reserved : (bk.safes.get i).reservation = some r) (same : r.number = n)
    (claims : bk.claimDrop r = .ok d) (joined : g = ((bk.safes.get i).bag r.side).append r.deposit d.base)
    (tested : swapTest (x.tab.safes.get i) r.side
      ({ bk.safes.get i with reservation := none }.setBag r.side g) = (f, sources)) :
    dropDone x n bk = safeAccepted i
      ((bk.setDeposit r.deposit
        { d with state := .inSafe, holder := some (.safe i r.side), carry := none }).setSafe i f)
      (oneByte r.side.code ++ twoBytes g.pouches.length ++ amountBytes g.value) sources := by
  have bag : ({ bk.safes.get i with reservation := none } : Safe).bag r.side = (bk.safes.get i).bag r.side := by
    cases r.side <;> rfl
  subst joined
  simp [dropDone, role, reserved, same, claims, bag, tested]

theorem dropCancel_reserved (role : x.entry.role = .safe i) (reserved : (bk.safes.get i).reservation = some r)
    (same : r.number = n) : dropCancel x n bk =
      safeAccepted i (bk.setSafe i { bk.safes.get i with reservation := none }) [] [] := by
  simp [dropCancel, role, reserved, same]

theorem grantExpiry_due (reserved : (bk.safes.get i).reservation = some r) (down : r.grant = 0) :
    grantExpiry i bk = some { next := bk.setSafe i { bk.safes.get i with reservation := none } } := by
  simp [grantExpiry, reserved, down]

theorem grantExpiry_running (reserved : (bk.safes.get i).reservation = some r) (running : r.grant ≠ 0) :
    grantExpiry i bk = none := by
  simp [grantExpiry, reserved, running]

end

/-- Settles O23: each frame's rule by the reservation and the claim, the expiry by the grant timer, and the claim by its
record. -/
theorem reservationEndsByDropCancelOrExpiry : Obligations.ReservationEndsByDropCancelOrExpiry := by
  refine ⟨fun s i => ⟨fun p b x n heard role reads => ?done, fun p b x n heard role reads => ?cancel,
    fun r reserved => ⟨fun down => ?due, fun running => ?running⟩⟩,
    fun bk r => ⟨Books.claimDrop_empty, fun d used => ⟨Books.claimDrop_unknown used, Books.claimDrop_carried used,
      Books.claimDrop_busy used⟩⟩⟩
  case done =>
    have may : x.entry.role.maySend .dropDone = true := by rw [role]; rfl
    rw [exec_dropDone]
    refine ⟨fun without => ?_, fun r reserved same => ⟨fun e refuses => ?_, fun d claims =>
      ⟨_, _, _, rfl, rfl, ?_⟩⟩⟩
    · rw [bookFrame_turnedAway heard may reads (dropDone_notGranted role without)]
    · rw [bookFrame_turnedAway_with heard may reads (dropDone_unclaimed role reserved same refuses)]
      rfl
    · rw [bookFrame_safeAccepted heard may reads (dropDone_claimed role reserved same claims rfl rfl)]
      rfl
  case cancel =>
    have may : x.entry.role.maySend .dropCancel = true := by rw [role]; rfl
    rw [exec_dropCancel]
    refine ⟨fun without => ?_, fun r reserved same => ?_⟩
    · rw [bookFrame_turnedAway heard may reads (dropCancel_notGranted role without)]
    · rw [bookFrame_safeAccepted heard may reads (dropCancel_reserved role reserved same)]
      rfl
  case due =>
    rw [exec_grantTimerExpiry, bookExpiry_due (grantExpiry_due reserved down)]
    rfl
  case running => rw [exec_grantTimerExpiry, bookExpiry_running (grantExpiry_running reserved running)]

end Sys2Proof.Machine

/-! ## SOFT_RESET -/

namespace Sys2Proof

@[simp] theorem Tab.mapIx_self {α : Type} {n : Nat} (t : Tab α n) : (t.mapIx fun _ x => x) = t :=
  Tab.ext_get fun i => Tab.get_mapIx _ t i

end Sys2Proof

namespace Sys2Proof.Machine
open Sys2Proof

/-! ### The docks and their consignments -/

/-- A soft reset returns the consignment to READY: its dock is in ARRIVED, CUSTODY or EXCHANGE and lists it (R149). -/
def Handover.returns (h : Handover) (k : Fin 8) : Bool :=
  (h.state == .arrived || h.state == .custody || h.state == .exchange) && h.atDock.contains k

/-- A handover at a soft reset, with the lockout duration of the ACTIVE bank (R149). -/
def Handover.softReset (h : Handover) (lockout : Nat) : Handover :=
  if h.state = .idle ∨ h.state = .locked then h
  else if h.state = .lockout then { h with lockout := some lockout }
  else h.left .idle

theorem Handover.returns_iff (h : Handover) (k : Fin 8) :
    h.returns k = true ↔ (h.state = .arrived ∨ h.state = .custody ∨ h.state = .exchange) ∧ k ∈ h.atDock := by
  simp [Handover.returns, or_assoc]

/-- One dock at a soft reset: its handover and the consignments it returns change, and nothing else (R149). -/
theorem dockSoftReset_eq (T : Tables) (d : Fin 2) (bk : Books) : dockSoftReset T d bk = { bk with
    docks := bk.docks.set d ((bk.docks.get d).softReset T.timing.lockout)
    consigns := bk.consigns.mapIx fun k c => if (bk.docks.get d).returns k then c.cleared .ready else c } := by
  cases st : (bk.docks.get d).state <;>
    simp [dockSoftReset, Handover.softReset, Handover.returns, st, Books.abort, Books.setDock]

section
variable (T : Tables) (bk : Books)

/-- A soft reset keeps the positions and the close order, and changes every other table record by record (R22, R53, R76,
R99, R122). -/
theorem Books.softReset_frame : bk.softReset T = { bk with
    deposits := bk.deposits.map fun d => d.map fun d => d.softReset T.timing.carryTransfer
    tills := bk.tills.map Till.softReset
    safes := bk.safes.map Safe.softReset
    transfers := bk.transfers.map fun t => t.map fun t => t.softReset T.timing.carryTransfer
    lanes := bk.lanes.map fun _ => Lane.idle
    consigns := (bk.softReset T).consigns
    docks := (bk.softReset T).docks } := by
  rw [Books.softReset, dockSoftReset_eq, dockSoftReset_eq]

theorem Books.softReset_pos : (bk.softReset T).pos = bk.pos := by
  rw [bk.softReset_frame T]

theorem Books.softReset_closeOrder : (bk.softReset T).closeOrder = bk.closeOrder := by
  rw [bk.softReset_frame T]

theorem Books.softReset_docks_get (d : Fin 2) :
    (bk.softReset T).docks.get d = (bk.docks.get d).softReset T.timing.lockout := by
  rw [Books.softReset, dockSoftReset_eq, dockSoftReset_eq]
  match d with
  | 0 => simp [Tab.get_set]
  | 1 => simp [Tab.get_set]

/-- A consignment that both docks listed would be cleared once for each, to the same record. -/
theorem Books.softReset_consigns_get (k : Fin 8) : (bk.softReset T).consigns.get k =
    if ∃ d, (bk.docks.get d).returns k = true then (bk.consigns.get k).cleared .ready else bk.consigns.get k := by
  rw [Books.softReset, dockSoftReset_eq, dockSoftReset_eq]
  simp only [Tab.get_mapIx, Tab.get_set_other _ _ (Fin.zero_ne_one (n := 0)).symm, Fin.exists_fin_two]
  cases (bk.docks.get 0).returns k <;> cases (bk.docks.get 1).returns k <;> simp [Consignment.cleared]

end

/-! ### Records one by one -/

theorem Deposit.softReset_eq (d : Deposit) (window : Nat) : d.softReset window =
    if d.state = .counting then { d with state := .awaitingCount, holder := none, countingStaff := none }
    else if d.state = .carried ∧ d.overdue = false then { d with carry := some (window * 60) }
    else d := by
  simp [Deposit.softReset, Deposit.returned]

theorem TableStore.resetBank_eq (t : TableStore) (b : Fin 2) :
    t.resetBank b = if t.activation = none then b else t.active := by
  cases activation : t.activation <;> simp [TableStore.resetBank, activation]

/-! ### The reset and its reply -/

/-- The emptied uplink queue has room for the reply (R154). -/
theorem State.softReset_room (s : State) : s.softReset.ReplyRoom := by
  refine ⟨rfl, ?_⟩
  simp [State.slotFree, State.keptFree, State.repliesHeld, State.softReset, Links.softReset]

/-- A reply on the uplink queue changes no flag of the summary. -/
theorem State.said_summary (s : State) (c : Command) (r : Option Reason) (result : List Byte) :
    (s.said c r result).summary = s.summary := rfl

theorem exec_softReset {s : State} {c : Command} (head : s.AtHead c 0x1D) (empty : c.params = []) :
    exec .softReset s = .next (s.softReset.said c none []) := by
  have reply : execSoftReset s = .next (s.softReset.offerReply ⟨c.tag, c.code, none, []⟩ .nothing) := by
    rw [execSoftReset, head.operand (readNothing_nil empty)]
  have placed : s.softReset.offerReply ⟨c.tag, c.code, none, []⟩ .nothing = s.softReset.said c none [] :=
    (State.offerReply_room s.softReset_room).trans (State.placeReply_said _ c none [])
  rw [← placed]
  exact reply

/-- Settles O60: the reset state part by part, with its reply said. -/
theorem softResetKeepsTheAccount : Obligations.SoftResetKeepsTheAccount := by
  intro s c head empty
  have frame := s.books.softReset_frame s.activeTables
  refine ⟨_, exec_softReset head empty, rfl, Books.softReset_pos _ _, Books.softReset_closeOrder _ _, rfl, rfl, rfl,
    rfl, rfl, ?uplink, rfl, rfl, Tab.get_map _ _, Tab.get_map _ _, fun p => ?seg, ?uport, fun l => ?lane,
    fun i => ?safe, fun i => ?transfer, fun k => ?consign, fun i => ?deposit, fun i => ?till, fun d => ?dock⟩
  case uplink =>
    rw [State.said_summary]
    rfl
  case seg =>
    rw [← TableStore.resetBank_eq]
    exact Quad.get_map _ _ p
  case uport =>
    rw [← TableStore.resetBank_eq]
    rfl
  case lane => exact (congrArg (·.lanes.get l) frame).trans (Tab.get_map _ _ l)
  case safe => exact (congrArg (·.safes.get i) frame).trans (Tab.get_map _ _ i)
  case transfer => exact (congrArg (·.transfers.get i) frame).trans (Tab.get_map _ _ i)
  case consign =>
    simp only [← Handover.returns_iff]
    exact Books.softReset_consigns_get _ _ k
  case deposit =>
    simp only [← Deposit.softReset_eq]
    exact (congrArg (·.deposits.get i) frame).trans (Tab.get_map _ _ i)
  case till => exact (congrArg (·.tills.get i) frame).trans (Tab.get_map _ _ i)
  case dock =>
    have reset : (s.softReset.said c none []).books.docks.get d =
      (s.books.docks.get d).softReset s.activeTables.timing.lockout := Books.softReset_docks_get _ _ d
    rw [reset]
    refine ⟨fun kept => if_pos kept, fun locks => ?_, fun idle locked locks => ?_⟩
    · simp [Handover.softReset, locks]
    · simp [Handover.softReset, idle, locked, locks, Handover.left, Handover.powerOn]

end Sys2Proof.Machine

/-! ## The bag positions and the swap test -/

namespace Sys2Proof.Machine
open Sys2Proof

section
variable (f : Safe) (side : BagSide) (g : Bag)

@[simp] theorem Safe.setBag_bag : (f.setBag side g).bag side = g := by
  cases side <;> rfl
@[simp] theorem Safe.setBag_bag_other : (f.setBag side g).bag side.other = f.bag side.other := by
  cases side <;> rfl
@[simp] theorem Safe.setBag_other_bag : (f.setBag side.other g).bag side = f.bag side := by
  cases side <;> rfl
@[simp] theorem Safe.setBag_setBag (h : Bag) : (f.setBag side g).setBag side h = f.setBag side h := by
  cases side <;> rfl
@[simp] theorem Safe.setBag_state : (f.setBag side g).state = f.state := by
  cases side <;> rfl
@[simp] theorem Safe.setBag_reservation : (f.setBag side g).reservation = f.reservation := by
  cases side <;> rfl
@[simp] theorem Safe.setBag_overfill : (f.setBag side g).overfill = f.overfill := by
  cases side <;> rfl

/-- A safe whose positions are another's has its bags. -/
@[simp] theorem Safe.bag_mk (state : SafeState) (reservation : Option Reservation) (overfill : Bool) :
    (⟨state, f.bagA, f.bagB, reservation, overfill⟩ : Safe).bag side = f.bag side := by
  cases side <;> rfl

theorem Safe.activeSide_isSome_iff :
    f.activeSide.isSome = true ↔ (f.bag side).state = .active ∨ (f.bag side.other).state = .active := by
  have either : f.activeSide.isSome = true ↔ f.bagA.state = .active ∨ f.bagB.state = .active := by
    unfold Safe.activeSide
    by_cases a : f.bagA.state = .active <;> by_cases b : f.bagB.state = .active <;> simp [a, b]
  cases side with
  | a => exact either
  | b => exact either.trans or_comm

end

theorem testFires_iff (e : SafeEntry) (g : Bag) :
    testFires e g = true ↔ e.threshold < g.pouches.length ∨ (e.valueLimit : Int) < g.value := by
  simp [testFires]

section
variable {e : SafeEntry} {side : BagSide} {f : Safe}

theorem swapTest_quiet (quiet : testFires e (f.bag side) = false) : swapTest e side f = (f, []) := by
  simp [swapTest, quiet]

theorem swapTest_swaps (fires : testFires e (f.bag side) = true) (room : (f.bag side.other).state ≠ .full) :
    swapTest e side f = ({ (f.setBag side { f.bag side with state := .full }).setBag side.other
      { f.bag side.other with state := .active } with overfill := false }, [.bagFull]) := by
  simp [swapTest, fires, room]

theorem swapTest_overfills (fires : testFires e (f.bag side) = true) (full : (f.bag side.other).state = .full)
    (policy : e.policy = .overfill) (short : (f.bag side).pouches.length < 40) :
    swapTest e side f = ({ f with overfill := true }, if f.overfill then [] else [.overfill]) := by
  simp [swapTest, fires, full, policy, short]

theorem swapTest_stops (fires : testFires e (f.bag side) = true) (full : (f.bag side.other).state = .full)
    (stops : e.policy = .stop ∨ 40 ≤ (f.bag side).pouches.length) :
    swapTest e side f =
      ({ f.setBag side { f.bag side with state := .full } with state := .stopped }, [.bagFull, .safeStopped]) := by
  have no_overfill : ¬ (e.policy = .overfill ∧ (f.bag side).pouches.length < 40) := by
    rintro ⟨policy, short⟩
    rcases stops with stop | long
    · rw [policy] at stop; cases stop
    · omega
  simp [swapTest, fires, full, no_overfill]

end

/-- Settles O24: the test's four outcomes, by whether it fires, the other position, and the policy with the bag's
room. -/
theorem swapTestRowByRow : Obligations.SwapTestRowByRow := by
  refine fun e side f => ⟨fun few low => ?quiet, fun past => ?fires⟩
  case quiet =>
    refine swapTest_quiet ?_
    rw [← Bool.not_eq_true, testFires_iff]
    omega
  case fires =>
    have fires := (testFires_iff e (f.bag side)).mpr past
    refine ⟨fun room => ?swaps, fun full => ⟨swapTest_overfills fires full, fun stops => ?stops⟩⟩
    case swaps => simp [swapTest_swaps fires room]
    case stops => simp [swapTest_stops fires full stops]

end Sys2Proof.Machine

/-! ## BAG_OUT -/

namespace Sys2Proof.Machine
open Sys2Proof

theorem exec_bagOut (p : Fin 4) (b : FrameBody) (s : State) :
    exec (.bagOut p b) s = .next (bookFrame .bagOut readBagOut bagOut p b s) := rfl

theorem Books.transferCarries_iff (bk : Books) (n : Nat) :
    (bk.transfers.rows.any fun t => t.any fun t => t.bag == n) = true ↔
      ∃ u e, bk.transfers.get u = some e ∧ e.bag = n := by
  simp [Tab.rows_any_iff, Option.any_eq_true, -List.any_eq_true]

section
variable {x : Ctx} {bk : Books} {i : Fin 16} {q : BagOut}

theorem bagOut_staff (role : x.entry.role = .safe i) (fails : x.safeStaff q.staff = false) :
    bagOut x q bk = .reported .staffNotPermitted bk := by
  simp [bagOut, role, fails]

/-- R90: an EMPTY position, a bag without pouches, or a drop reserved into it. -/
theorem bagOut_badState (role : x.entry.role = .safe i) (passes : x.safeStaff q.staff = true)
    (bad : ((bk.safes.get i).bag q.side).state = .empty ∨ ((bk.safes.get i).bag q.side).pouches = [] ∨
      ∃ r, (bk.safes.get i).reservation = some r ∧ r.side = q.side) :
    bagOut x q bk = .no .badState bk := by
  simp [bagOut, role, passes, Option.any_eq_true, bad]

variable (role : x.entry.role = .safe i) (passes : x.safeStaff q.staff = true)
  (bag : ((bk.safes.get i).bag q.side).state ≠ .empty) (filled : ((bk.safes.get i).bag q.side).pouches ≠ [])
  (unreserved : ((bk.safes.get i).reservation.any fun r => r.side == q.side) = false)
include role passes bag filled unreserved

theorem bagOut_full (full : bk.transfers.firstIx (fun t => t.isNone) = none) :
    bagOut x q bk = .no .transferFull bk := by
  simp [bagOut, role, passes, bag, filled, unreserved, full]

variable {t : Fin 32} (free : bk.transfers.firstIx (fun t => t.isNone) = some t)
include free

theorem bagOut_duplicate (inUse : ∃ u e, bk.transfers.get u = some e ∧ e.bag = q.bag) :
    bagOut x q bk = .no .duplicateNumber bk := by
  have carried := (bk.transferCarries_iff q.bag).mpr inUse
  simp [bagOut, role, passes, bag, filled, unreserved, free, carried, -List.any_eq_true]

/-- R91: the deposits held by the transfer, the bag out of its position, and the transfer's entry with a full timer. -/
theorem bagOut_moved (fresh : ∀ u e, bk.transfers.get u = some e → e.bag ≠ q.bag) :
    bagOut x q bk = safeAccepted i
      (({ bk.changeDeposits ((bk.safes.get i).bag q.side).pouches
            (fun d => { d with state := .inTransfer, holder := some (.transfer t) }) with
          transfers := bk.transfers.set t (some
            { bag := q.bag, safe := i, side := q.side, deposits := ((bk.safes.get i).bag q.side).pouches
              value := ((bk.safes.get i).bag q.side).value, staff := q.staff, timeOut := x.clock.tod
              timer := some ⟨x.tab.timing.carryTransfer * 60, x.tab.timing.carryTransfer * 60⟩
              late := false }) } : Books).setSafe i ((bk.safes.get i).bagTaken q.side))
      (oneByte t.val ++ twoBytes ((bk.safes.get i).bag q.side).pouches.length ++
        amountBytes ((bk.safes.get i).bag q.side).value) [] := by
  have uncarried : ¬ (bk.transfers.rows.any fun t => t.any fun t => t.bag == q.bag) = true := by
    rw [bk.transferCarries_iff]
    exact fun ⟨u, e, used, same⟩ => fresh u e used same
  simp [bagOut, role, passes, bag, filled, unreserved, free, uncarried, Books.setSafe, -List.any_eq_true]

end

theorem Safe.bagTaken_other_active {f : Safe} {side : BagSide} (active : (f.bag side.other).state = .active) :
    f.bagTaken side = f.setBag side Bag.none := by
  have active' : (f.setBag side Bag.none).activeSide.isSome = true := by
    simp [Safe.activeSide_isSome_iff _ side, active]
  simp [Safe.bagTaken, active']

theorem Safe.bagTaken_alone {f : Safe} {side : BagSide} (alone : (f.bag side.other).state ≠ .active) :
    f.bagTaken side = { f.setBag side Bag.fresh with state := .running, overfill := false } := by
  have nothing : ¬ (f.setBag side Bag.none).activeSide.isSome = true := by
    simp [Safe.activeSide_isSome_iff _ side, alone, Bag.none]
  unfold Safe.bagTaken
  rw [if_neg nothing, Safe.setBag_setBag]

/-- The lowest free transfer entry (R91). -/
theorem firstIx_free {n : Nat} {α : Type} {ts : Tab (Option α) n} {t : Fin n} (free : ts.get t = none)
    (lowest : ∀ u, u < t → ts.get u ≠ none) : ts.firstIx (fun t => t.isNone) = some t :=
  Tab.firstIx_eq_some (by simp [free]) fun u below => by simpa [Option.isSome_iff_ne_none] using lowest u below

/-- Settles O25: BAG_OUT by its refusals in order and the entry it takes, then the safe without the bag by whether its
other position takes drops. -/
theorem bagOutMovesTheBagToATransfer : Obligations.BagOutMovesTheBagToATransfer := by
  refine ⟨fun s p b x i q heard role reads => ?frame, fun f g side taken => ?taken⟩
  case frame =>
    have may : x.entry.role.maySend .bagOut = true := by rw [role]; rfl
    have reserved_none (unreserved : ∀ r, (s.books.safes.get i).reservation = some r → r.side ≠ q.side) :
        ((s.books.safes.get i).reservation.any fun r => r.side == q.side) = false := by
      simpa [Option.any_eq_false] using unreserved
    rw [exec_bagOut]
    refine ⟨fun fails => ?staff, fun passes bad => ?bad, fun passes bag filled unreserved =>
      ⟨fun used => ?full, fun free inUse => ?duplicate⟩,
      fun passes bag filled unreserved t free lowest fresh => ?moved⟩
    case staff => rw [bookFrame_reported heard may reads (bagOut_staff role fails)]
    case bad => rw [bookFrame_turnedAway heard may reads (bagOut_badState role passes bad)]
    case full =>
      have full : s.books.transfers.firstIx (fun t => t.isNone) = none :=
        Tab.firstIx_eq_none fun t => by simpa [Option.isSome_iff_ne_none] using used t
      rw [bookFrame_turnedAway heard may reads (bagOut_full role passes bag filled (reserved_none unreserved) full)]
    case duplicate =>
      obtain ⟨t, first⟩ := Option.isSome_iff_exists.mp
        ((Tab.firstIx_isSome_iff s.books.transfers fun t => t.isNone).mpr (by simpa using free))
      rw [bookFrame_turnedAway heard may reads
        (bagOut_duplicate role passes bag filled (reserved_none unreserved) first inUse)]
    case moved =>
      rw [bookFrame_safeAccepted heard may reads (bagOut_moved role passes bag filled (reserved_none unreserved)
        (firstIx_free free lowest) fresh)]
      simp only [Books.changeDeposits, Books.setSafe, State.setSources, List.foldl_nil]
  case taken =>
    subst taken
    by_cases active : (f.bag side.other).state = .active
    · simp [Safe.bagTaken_other_active active, active, Bag.none]
    · simp [Safe.bagTaken_alone active, active, Bag.fresh]

end Sys2Proof.Machine

/-! ## BAG_IN, the transfer timer and POUCH_IN -/

namespace Sys2Proof.Machine
open Sys2Proof

theorem exec_bagIn (p : Fin 4) (b : FrameBody) (s : State) :
    exec (.bagIn p b) s = .next (bookFrame .bagIn readReceived bagIn p b s) := rfl

theorem exec_pouchIn (p : Fin 4) (b : FrameBody) (s : State) :
    exec (.pouchIn p b) s = .next (bookFrame .pouchIn readReceived pouchIn p b s) := rfl

theorem exec_transferTimerExpiry (t : Fin 32) (s : State) :
    exec (.transferTimerExpiry t) s = .next (bookExpiry (transferExpiry t) s) := rfl

/-- A heard frame that its owner accepts with no source and no PICKUP_CALL is answered, and no more follows (R159). -/
theorem bookFrame_acceptedAlone {α : Type} {k : OwnedKind} {parse : List Byte → Option α}
    {own : Ctx → α → Books → Ruling Books} {p : Fin 4} {b : FrameBody} {s : State} {x : Ctx} {a : α} {bk : Books}
    {result : List Byte} (heard : s.Heard k p b x) (role : x.entry.role.maySend k = true)
    (reads : parse b.payload = some a) (accepts : own x a s.books = .accept { next := bk, result := result }) :
    bookFrame k parse own p b s = (s.withBooks bk).accepted x result :=
  bookFrame_accepted heard role reads accepts

section
variable {bk : Books} {n : Nat}

/-- The transfer of a bag number is the first that carries it (R95). -/
theorem Books.findTransfer_first {t : Fin 32} {e : Transfer} (used : bk.transfers.get t = some e)
    (same : e.bag = n) (first : ∀ u f, u < t → bk.transfers.get u = some f → f.bag ≠ n) :
    bk.findTransfer n = some (t, e) := by
  have found : bk.transfers.firstIx (fun t => t.any fun t => t.bag == n) = some t :=
    Tab.firstIx_eq_some (by simp [used, same]) fun u below => by
      simpa [Option.any_eq_false] using fun f => first u f below
  simp [Books.findTransfer, found, used]

theorem Books.findTransfer_none (others : ∀ u f, bk.transfers.get u = some f → f.bag ≠ n) :
    bk.findTransfer n = none := by
  have unfound : bk.transfers.firstIx (fun t => t.any fun t => t.bag == n) = none :=
    Tab.firstIx_eq_none fun u => by simpa [Option.any_eq_false] using others u
  simp [Books.findTransfer, unfound]

end

section
variable {x : Ctx} {bk : Books} {q : Received}

theorem bagIn_staff (fails : x.safeStaff q.staff = false) : bagIn x q bk = .reported .staffNotPermitted bk := by
  simp [bagIn, fails]

theorem bagIn_unknown (passes : x.safeStaff q.staff = true) (unknown : bk.findTransfer q.number = none) :
    bagIn x q bk = .reported .unknownNumber bk := by
  simp [bagIn, passes, unknown]

/-- R95: the deposits to AWAITING_COUNT and the entry free; the answer's safe is the transfer's. -/
theorem bagIn_found {t : Fin 32} {e : Transfer} (passes : x.safeStaff q.staff = true)
    (found : bk.findTransfer q.number = some (t, e)) : bagIn x q bk = .accept {
      next := { bk.changeDeposits e.deposits fun d => { d with state := .awaitingCount, holder := none } with
        transfers := bk.transfers.set t none }
      result := oneByte t.val ++ oneByte e.safe.val ++ oneByte e.side.code ++ twoBytes e.deposits.length ++
        amountBytes e.value ++ flagByte e.late ++ [1] ++ (bk.safes.get e.safe).summary } := by
  simp [bagIn, passes, found, maybeBytes]

theorem pouchIn_staff (fails : x.safeStaff q.staff = false) : pouchIn x q bk = .reported .staffNotPermitted bk := by
  simp [pouchIn, fails]

theorem pouchIn_unknown (passes : x.safeStaff q.staff = true) (unknown : bk.findLive q.number = none) :
    pouchIn x q bk = .no .unknownPouch bk := by
  simp [pouchIn, passes, unknown]

theorem pouchIn_unclaimed {i : Fin 512} {r : Reason} (passes : x.safeStaff q.staff = true)
    (found : bk.findLive q.number = some i) (refuses : bk.claim i .carried .depositBusy .unknownPouch = .error r) :
    pouchIn x q bk = .no r bk := by
  simp [pouchIn, passes, found, refuses]

/-- R96: the pouch to AWAITING_COUNT, its OVERDUE flag kept; the answer names no safe. -/
theorem pouchIn_claimed {i : Fin 512} {d : Deposit} (passes : x.safeStaff q.staff = true)
    (found : bk.findLive q.number = some i) (claims : bk.claim i .carried .depositBusy .unknownPouch = .ok d) :
    pouchIn x q bk = .accept {
      next := bk.setDeposit i { d with state := .awaitingCount, holder := none, carry := none }
      result := twoBytes i.val ++ flagByte d.overdue ++ [0] } := by
  simp [pouchIn, passes, found, claims, maybeBytes]

end

section
variable {bk : Books} {t : Fin 32} {e : Transfer} {k : Timer}

theorem transferExpiry_due (used : bk.transfers.get t = some e) (timed : e.timer = some k) (down : k.remaining = 0) :
    transferExpiry t bk = some {
      next := { bk with transfers := bk.transfers.set t (some { e with timer := none, late := true }) }
      sources := [.transferLate] } := by
  obtain ⟨remaining, full⟩ := k
  subst down
  simp [transferExpiry, used, timed]

theorem transferExpiry_running (used : bk.transfers.get t = some e) (timed : e.timer = some k)
    (running : k.remaining ≠ 0) : transferExpiry t bk = none := by
  obtain ⟨remaining, full⟩ := k
  cases remaining with
  | zero => exact absurd rfl running
  | succ _ => simp [transferExpiry, used, timed]

end

/-- Settles O26: BAG_IN by its staff check and the transfer found, the expiry by its timer, POUCH_IN by its staff check
and its claim. -/
theorem transfersAndPouchesComeIn : Obligations.TransfersAndPouchesComeIn := by
  refine ⟨fun s p b x q heard role reads => ?bagIn, fun s t e k used timed => ⟨fun down => ?due,
    fun running => ?running⟩, fun s p b x q heard role reads => ?pouchIn⟩
  case bagIn =>
    have may : x.entry.role.maySend .bagIn = true := by rw [role]; rfl
    rw [exec_bagIn]
    refine ⟨fun fails => ?_, fun passes => ⟨fun others => ?_, fun t e used same first => ?_⟩⟩
    · rw [bookFrame_reported heard may reads (bagIn_staff fails)]
    · rw [bookFrame_reported heard may reads (bagIn_unknown passes (Books.findTransfer_none others))]
    · rw [bookFrame_acceptedAlone heard may reads (bagIn_found passes (Books.findTransfer_first used same first)),
        Books.changeDeposits]
  case due =>
    rw [exec_transferTimerExpiry, bookExpiry_due (transferExpiry_due used timed down)]
    rfl
  case running => rw [exec_transferTimerExpiry, bookExpiry_running (transferExpiry_running used timed running)]
  case pouchIn =>
    have may : x.entry.role.maySend .pouchIn = true := by rw [role]; rfl
    rw [exec_pouchIn]
    refine ⟨fun fails => ?_, fun passes => ⟨fun unknown => ?_, fun i d found used => ⟨fun carried => ?_,
      fun other live => ?_⟩⟩⟩
    · rw [bookFrame_reported heard may reads (pouchIn_staff fails)]
    · rw [bookFrame_turnedAway heard may reads (pouchIn_unknown passes unknown)]
    · rw [bookFrame_acceptedAlone heard may reads (pouchIn_claimed passes found (Books.claim_ok _ _ used carried))]
      rfl
    · rw [bookFrame_turnedAway heard may reads
        (pouchIn_unclaimed passes found (Books.claim_otherLive _ _ used other live))]

end Sys2Proof.Machine

/-! ## RELEASE and the staff checks -/

namespace Sys2Proof.Machine
open Sys2Proof

theorem exec_release (p : Fin 4) (b : FrameBody) (s : State) :
    exec (.release p b) s = .next (bookFrame .release readDepositStaff release p b s) := rfl

theorem Tables.staffPasses_iff (T : Tables) (id : Nat) (domain : Fin 8) (flag : StaffEntry → Bool) :
    T.staffPasses id domain flag = true ↔
      id ≠ 0 ∧ ∃ i, (T.staff.get i).id = id ∧ (T.staff.get i).domains.getLsbD domain.val = true ∧
        flag (T.staff.get i) = true := by
  simp only [Tables.staffPasses, Bool.and_eq_true, bne_iff_ne, Tab.rows_any_iff, beq_iff_eq, and_assoc]

/-- R89: the Safe Unit asks for no flag. -/
theorem Ctx.safeStaff_iff (x : Ctx) (id : Nat) : x.safeStaff id = true ↔
    id ≠ 0 ∧ ∃ i, (x.tab.staff.get i).id = id ∧ (x.tab.staff.get i).domains.getLsbD x.entry.domain.val = true := by
  simp only [Ctx.safeStaff, Tables.staffPasses_iff, and_true]

section
variable {x : Ctx} {bk : Books} {q : DepositStaff}

theorem release_staff (fails : x.tab.staffPasses q.staff x.entry.domain (·.supervisor) = false) :
    release x q bk = .reported .staffNotPermitted bk := by
  simp [release, fails]

variable (passes : x.tab.staffPasses q.staff x.entry.domain (·.supervisor) = true)
include passes

theorem release_sameStaff {d : Deposit} (used : bk.deposits.get q.deposit = some d)
    (same : d.countingStaff = some q.staff) : release x q bk = .reported .sameStaff bk := by
  simp [release, passes, used, same]

theorem release_unclaimed {r : Reason}
    (others : ∀ d, bk.deposits.get q.deposit = some d → d.countingStaff ≠ some q.staff)
    (refuses : bk.claim q.deposit .discrepant .badState .unknownDeposit = .error r) :
    release x q bk = .no r bk := by
  have other : (bk.deposits.get q.deposit).any (fun d => d.countingStaff == some q.staff) = false := by
    simpa [Option.any_eq_false] using others
  simp [release, passes, other, refuses]

/-- R120: the deposit CLOSED at the end of the close order, its results answered. -/
theorem release_claimed {d : Deposit} {r : CountResult} (used : bk.deposits.get q.deposit = some d)
    (other : d.countingStaff ≠ some q.staff) (discrepant : d.state = .discrepant) (counted : d.result = some r) :
    release x q bk = .accept {
      next := { bk.setDeposit q.deposit { d.close .released x.clock.tod with releasingStaff := some q.staff } with
        closeOrder := bk.closeOrder ++ [q.deposit] }
      result := twoBytes q.deposit.val ++ oneByte r.verdict.code ++ amountBytes r.variance } := by
  simp [release, passes, used, other, Books.claim_ok _ _ used discrepant, counted, Books.joinCloseOrder_one]

end

/-- Settles O31: RELEASE by its staff checks and its claim, and each staff check by the entry that passes it. -/
theorem releaseClosesADiscrepantDeposit : Obligations.ReleaseClosesADiscrepantDeposit := by
  refine ⟨fun s p b x q heard role reads => ?frame, Tables.staffPasses_iff, Ctx.safeStaff_iff⟩
  have may : x.entry.role.maySend .release = true := by rw [role]; rfl
  rw [exec_release]
  refine ⟨fun fails => ?staff, fun passes => ⟨fun empty => ?empty, fun d used => ⟨fun same => ?same,
    fun other => ⟨fun closed => ?closed, fun state live => ?otherLive, fun r discrepant counted => ?closes⟩⟩⟩⟩
  case staff => rw [bookFrame_reported heard may reads (release_staff fails)]
  case empty =>
    rw [bookFrame_turnedAway heard may reads
      (release_unclaimed passes (by simp [empty]) (Books.claim_empty _ _ _ empty))]
  case same => rw [bookFrame_reported heard may reads (release_sameStaff passes used same)]
  case closed =>
    rw [bookFrame_turnedAway heard may reads
      (release_unclaimed passes (by simpa [used] using other) (Books.claim_closed _ _ used closed (by decide)))]
  case otherLive =>
    rw [bookFrame_turnedAway heard may reads
      (release_unclaimed passes (by simpa [used] using other) (Books.claim_otherLive _ _ used state live))]
  case closes =>
    rw [bookFrame_acceptedAlone heard may reads (release_claimed passes used other discrepant counted)]
    rfl

end Sys2Proof.Machine

/-! ## COUNT_RECOUNT, COUNT_ABORT and the idle timer -/

namespace Sys2Proof.Machine
open Sys2Proof

theorem exec_countRecount (p : Fin 4) (b : FrameBody) (s : State) :
    exec (.countRecount p b) s = .next (bookFrame .countRecount readNothing (fun x _ => countRecount x) p b s) := rfl

theorem exec_countAbort (p : Fin 4) (b : FrameBody) (s : State) :
    exec (.countAbort p b) s = .next (bookFrame .countAbort readNothing (fun x _ => countAbort x) p b s) := rfl

theorem exec_idleTimerExpiry (l : Fin 6) (s : State) :
    exec (.idleTimerExpiry l) s = .next (bookExpiry (idleExpiry l) s) := rfl

section
variable {x : Ctx} {bk : Books} {l : Fin 6} {ss : Session}

theorem countRecount_idle (role : x.entry.role = .counter l) (idle : (bk.lanes.get l).session = none) :
    countRecount x bk = .no .badState bk := by
  simp [countRecount, role, idle]

theorem countAbort_idle (role : x.entry.role = .counter l) (idle : (bk.lanes.get l).session = none) :
    countAbort x bk = .no .badState bk := by
  simp [countAbort, role, idle]

/-- R110: the session kept with a full idle timer; the answer gives what the lane held before. -/
theorem countRecount_open (role : x.entry.role = .counter l) (opened : (bk.lanes.get l).session = some ss) :
    countRecount x bk = laneAccepted l
      (bk.setLane l { Lane.idle with session := some { ss with idle := idleTimer x.tab } })
      (twoBytes (bk.lanes.get l).bundle.length ++ twoBytes (bk.lanes.get l).used) [] := by
  simp [countRecount, role, opened]

theorem countAbort_open (role : x.entry.role = .counter l) (opened : (bk.lanes.get l).session = some ss) :
    countAbort x bk = laneAccepted l (bk.abandon l ss) (twoBytes ss.deposit.val) [] := by
  simp [countAbort, role, opened]

/-- R111: the deposit of an abandoned session awaits its count again, held by nobody, and the lane is IDLE. -/
theorem Books.abandon_eq {d : Deposit} (used : bk.deposits.get ss.deposit = some d) :
    bk.abandon l ss = { bk with
      deposits := bk.deposits.set ss.deposit
        (some { d with state := .awaitingCount, holder := none, countingStaff := none })
      lanes := bk.lanes.set l Lane.idle } := by
  rw [Books.abandon, Books.changeDeposits_one used]
  rfl

theorem idleExpiry_due (opened : (bk.lanes.get l).session = some ss) (down : ss.idle.remaining = 0) :
    idleExpiry l bk = some { next := bk.abandon l ss, sources := [.sessionExpired] } := by
  simp [idleExpiry, opened, down]

theorem idleExpiry_running (opened : (bk.lanes.get l).session = some ss) (running : ss.idle.remaining ≠ 0) :
    idleExpiry l bk = none := by
  simp [idleExpiry, opened, running]

end

/-- Settles O29: each frame's rule by the lane's session, the expiry by its timer; the abort and the expiry abandon the
session alike. -/
theorem recountAbortAndIdleExpiry : Obligations.RecountAbortAndIdleExpiry := by
  have mayRecount {x : Ctx} {l : Fin 6} (role : x.entry.role = .counter l) :
      x.entry.role.maySend .countRecount = true := by rw [role]; rfl
  have mayAbort {x : Ctx} {l : Fin 6} (role : x.entry.role = .counter l) :
      x.entry.role.maySend .countAbort = true := by rw [role]; rfl
  refine ⟨fun s l p b x idle role empty => ⟨fun heard => ?recountIdle, fun heard => ?abortIdle⟩,
    fun s l ss opened => ⟨fun p b x heard role empty => ?recount, fun p b x d heard role empty used => ?abort,
      fun d used => ⟨fun down => ?due, fun running => ?running⟩⟩⟩
  case recountIdle =>
    rw [exec_countRecount,
      bookFrame_turnedAway heard (mayRecount role) (readNothing_nil empty) (countRecount_idle role idle)]
  case abortIdle =>
    rw [exec_countAbort,
      bookFrame_turnedAway heard (mayAbort role) (readNothing_nil empty) (countAbort_idle role idle)]
  case recount =>
    rw [exec_countRecount,
      bookFrame_laneAccepted heard (mayRecount role) (readNothing_nil empty) (countRecount_open role opened)]
    simp [State.setSources, Books.setLane, Lane.used, Lane.code, Lane.idle, idleTimer, oneByte, beBytes]
  case abort =>
    rw [exec_countAbort,
      bookFrame_laneAccepted heard (mayAbort role) (readNothing_nil empty) (countAbort_open role opened),
      Books.abandon_eq used]
    simp [State.setSources, Lane.code, Lane.idle, oneByte, beBytes]
  case due =>
    rw [exec_idleTimerExpiry, bookExpiry_due (idleExpiry_due opened down), Books.abandon_eq used]
    rfl
  case running => rw [exec_idleTimerExpiry, bookExpiry_running (idleExpiry_running opened running)]

end Sys2Proof.Machine

/-! ## What a dock fault does -/

namespace Sys2Proof.Machine
open Sys2Proof

/-- R131: as a handover enters IDLE, LOCKOUT or LOCKED it keeps its lockout count and nothing else. -/
theorem Handover.left_eq (h : Handover) (st : DockState) :
    h.left st = ⟨st, none, none, [], none, [], [], h.lockouts, none, none⟩ := rfl

/-- R143: the handover after a dock fault, by the lockout limit. -/
def Handover.faulted (h : Handover) (timing : Timing) : Handover :=
  if timing.lockoutLimit ≤ min (h.lockouts + 1) 7 then { h.left .locked with lockouts := min (h.lockouts + 1) 7 }
  else { h.left .lockout with lockouts := min (h.lockouts + 1) 7, lockout := some timing.lockout }

section
variable (timing : Timing) (d : Fin 2) (bk : Books)

theorem dockFaultRecords_eq : dockFaultRecords timing d bk = { bk with
    docks := bk.docks.set d ((bk.docks.get d).faulted timing)
    consigns := (bk.abort d).consigns } := rfl

theorem dockFaultRecords_docks :
    (dockFaultRecords timing d bk).docks = bk.docks.set d ((bk.docks.get d).faulted timing) := rfl

theorem Books.abort_consigns_get (k : Fin 8) : (bk.abort d).consigns.get k =
    if k ∈ (bk.docks.get d).atDock then (bk.consigns.get k).cleared .ready else bk.consigns.get k := by
  simp [Books.abort]

end

/-- Settles O39: the handover and the consignments after the fault one by one, and the fault itself as the records, the
source and the report in that order. -/
theorem dockFaultLocksTheDock : Obligations.DockFaultLocksTheDock := by
  refine ⟨fun timing d bk =>
      ⟨?dock, fun e other => ?others, bk.abort_consigns_get d, dockFaultRecords_eq timing d bk⟩,
    fun s timing d station g k r => rfl⟩
  case dock =>
    rw [dockFaultRecords_docks, Tab.get_set_same]
    rfl
  case others => rw [dockFaultRecords_docks, Tab.get_set_other _ _ other]

end Sys2Proof.Machine

/-! ## Dock frames -/

namespace Sys2Proof.Machine
open Sys2Proof

/-- The kinds a dock terminal sends (R132). -/
def dockKinds : List OwnedKind := [.arriveBeacon, .departBeacon, .custodyPresent, .itemOut, .itemIn, .handoverEnd]

theorem Role.maySend_dock {role : Role} {d : Fin 2} {k : OwnedKind} (dock : role = .dock d) (sends : k ∈ dockKinds) :
    role.maySend k = true := by
  subst dock
  simp only [dockKinds, List.mem_cons, List.not_mem_nil, or_false] at sends
  rcases sends with rfl | rfl | rfl | rfl | rfl | rfl <;> rfl

/-- R165: a frame's owner sees the clock as it stands. -/
theorem State.Heard.clock {s : State} {k : OwnedKind} {p : Fin 4} {b : FrameBody} {x : Ctx} (heard : s.Heard k p b x) :
    x.clock = s.clock := by
  obtain ⟨⟨h, -, -, -, rfl⟩, -⟩ := heard
  rfl

theorem DockState.shut_iff (st : DockState) : st.shut = true ↔ st = .lockout ∨ st = .locked := by
  cases st <;> simp [DockState.shut]

theorem DockState.not_shut {st : DockState} (running : st ≠ .lockout) (unlocked : st ≠ .locked) : st.shut = false := by
  rw [← Bool.not_eq_true, DockState.shut_iff]
  exact not_or.mpr ⟨running, unlocked⟩

/-- R132: an accepted frame's kind is the visit's last kind. -/
theorem Handover.heard_visit {h : Handover} {v : Visit} (visit : h.visit = some v) (kind : Byte) :
    h.heard kind = { h with visit := some { v with lastKind := kind } } := by
  simp [Handover.heard, visit]

theorem oneByte_eq (v : Nat) : oneByte v = [BitVec.ofNat 8 v] := by
  simp [oneByte, beBytes]

theorem Handover.courierIs_iff (h : Handover) (n : Nat) :
    h.courierIs n = true ↔ ∃ v, h.visit = some v ∧ v.courier = n := by
  simp [Handover.courierIs, Option.any_eq_true]

theorem Handover.courierIs_other {h : Handover} {n : Nat} (others : ∀ v, h.visit = some v → v.courier ≠ n) :
    h.courierIs n = false := by
  rw [← Bool.not_eq_true, Handover.courierIs_iff]
  exact fun ⟨v, visit, same⟩ => others v visit same

section
variable {α : Type} {k : OwnedKind} {parse : List Byte → Option α} {own : Ctx → α → Books → Ruling Books} {p : Fin 4}
  {b : FrameBody} {s : State} {x : Ctx} {a : α} {d : Fin 2}

/-- A heard frame that its dock accepts is answered with the dock's state and what the kind adds, and the handover keeps
its kind (R132). -/
theorem bookFrame_dockAccepted {h : Handover} {bk : Books} {more : List Byte} {st : DockState}
    (heard : s.Heard k p b x) (role : x.entry.role.maySend k = true) (reads : parse b.payload = some a)
    (accepts : own x a s.books = dockAccepted x d h bk more []) (state : h.state = st) :
    bookFrame k parse own p b s =
      (s.withBooks { bk with docks := bk.docks.set d (h.heard x.kind) }).accepted x (oneByte st.code ++ more) := by
  subst state
  exact bookFrame_accepted heard role reads accepts

/-- The same at a dock with a visit, which keeps the frame's kind. -/
theorem bookFrame_visitAccepted {h : Handover} {bk : Books} {more : List Byte} {st : DockState} {v : Visit}
    (heard : s.Heard k p b x) (role : x.entry.role.maySend k = true) (reads : parse b.payload = some a)
    (accepts : own x a s.books = dockAccepted x d h bk more []) (state : h.state = st) (visit : h.visit = some v) :
    bookFrame k parse own p b s = (s.withBooks { bk with
      docks := bk.docks.set d { h with visit := some { v with lastKind := x.kind } } }).accepted x
        ([BitVec.ofNat 8 st.code] ++ more) := by
  rw [bookFrame_dockAccepted heard role reads accepts state, Handover.heard_visit visit, oneByte_eq]

/-- A heard frame that its dock refuses with a dock fault is turned away, then the fault raised (R132, R143). -/
theorem bookFrame_dockFaulted {r : Reason} (heard : s.Heard k p b x) (role : x.entry.role.maySend k = true)
    (reads : parse b.payload = some a) (faults : own x a s.books = dockFaulted d r s.books) :
    bookFrame k parse own p b s =
      (s.turnedAway x r 0 []).raiseDockFault x.tab.timing d x.src x.port x.kind r := by
  rw [bookFrame_heard heard role reads, faults]
  exact settle_refuse x r 0 [] (.dockFault d) s

/-- A heard dock frame whose owner answers DOCK_LOCKED to every payload that reads is turned away (R132). -/
theorem bookFrame_dockLocked (heard : s.Heard k p b x) (role : x.entry.role.maySend k = true)
    (reads : (parse b.payload).isSome = true) (refuses : ∀ a, own x a s.books = .no .dockLocked s.books) :
    bookFrame k parse own p b s = s.turnedAway x .dockLocked 0 [] := by
  obtain ⟨a, reads⟩ := Option.isSome_iff_exists.mp reads
  exact bookFrame_turnedAway heard role reads (refuses a)

end

theorem exec_arriveBeacon (p : Fin 4) (b : FrameBody) (s : State) :
    exec (.arriveBeacon p b) s = .next (bookFrame .arriveBeacon readId arriveBeacon p b s) := rfl

theorem exec_departBeacon (p : Fin 4) (b : FrameBody) (s : State) :
    exec (.departBeacon p b) s = .next (bookFrame .departBeacon readId departBeacon p b s) := rfl

theorem exec_custodyPresent (p : Fin 4) (b : FrameBody) (s : State) :
    exec (.custodyPresent p b) s = .next (bookFrame .custodyPresent readId custodyPresent p b s) := rfl

theorem exec_itemOut (p : Fin 4) (b : FrameBody) (s : State) :
    exec (.itemOut p b) s = .next (bookFrame .itemOut readContainerNumber itemOut p b s) := rfl

theorem exec_itemIn (p : Fin 4) (b : FrameBody) (s : State) :
    exec (.itemIn p b) s = .next (bookFrame .itemIn readContainer itemIn p b s) := rfl

theorem exec_handoverEnd (p : Fin 4) (b : FrameBody) (s : State) :
    exec (.handoverEnd p b) s = .next (bookFrame .handoverEnd readNothing (fun x _ => handoverEnd x) p b s) := rfl

end Sys2Proof.Machine

/-! ## Docks in LOCKOUT or LOCKED, OPEN_HANDOVER and DOCK_UNLOCK -/

namespace Sys2Proof.Machine
open Sys2Proof

/-! R132: each dock frame at a shut dock. -/

section
variable {x : Ctx} {d : Fin 2} {bk : Books} (role : x.entry.role = .dock d) (shut : (bk.docks.get d).state.shut = true)
include role shut

theorem arriveBeacon_shut (n : Nat) : arriveBeacon x n bk = .no .dockLocked bk := by
  simp [arriveBeacon, role, shut]

theorem departBeacon_shut (n : Nat) : departBeacon x n bk = .no .dockLocked bk := by
  simp [departBeacon, role, shut]

theorem custodyPresent_shut (n : Nat) : custodyPresent x n bk = .no .dockLocked bk := by
  simp [custodyPresent, role, shut]

theorem itemOut_shut (n : Nat) : itemOut x n bk = .no .dockLocked bk := by
  simp [itemOut, role, shut]

theorem itemIn_shut (q : Container) : itemIn x q bk = .no .dockLocked bk := by
  simp [itemIn, role, shut]

theorem handoverEnd_shut : handoverEnd x bk = .no .dockLocked bk := by
  simp [handoverEnd, role, shut]

end

/-- The row of a dock frame's kind. -/
theorem stationRow_dock {i : Instr} {k : OwnedKind} {p : Fin 4} {b : FrameBody} (row : stationRow i = some (k, p, b))
    (dock : k ∈ dockKinds) :
    (k = .arriveBeacon ∧ i = .arriveBeacon p b) ∨ (k = .departBeacon ∧ i = .departBeacon p b) ∨
    (k = .custodyPresent ∧ i = .custodyPresent p b) ∨ (k = .itemOut ∧ i = .itemOut p b) ∨
    (k = .itemIn ∧ i = .itemIn p b) ∨ (k = .handoverEnd ∧ i = .handoverEnd p b) := by
  unfold stationRow at row
  split at row <;> cases row <;> simp [dockKinds] at dock ⊢

section
variable {d : Fin 2} {bk : Books}

theorem openHandover_arrived {v : Visit} (arrived : (bk.docks.get d).state = .arrived)
    (visit : (bk.docks.get d).visit = some v) : openHandover d bk = .ok ({ bk with
      docks := bk.docks.set d { bk.docks.get d with state := .custody, holders := [], deliveries := [] } },
      twoBytes v.courier) := by
  simp [openHandover, arrived, visit, Books.setDock]

theorem openHandover_badState (other : (bk.docks.get d).state ≠ .arrived) : openHandover d bk = .error .badState := by
  simp [openHandover, other]

theorem dockUnlock_shut (shut : (bk.docks.get d).state.shut = true) : dockUnlock d bk = .ok ({ bk with
      docks := bk.docks.set d ⟨.idle, none, none, [], none, [], [], 0, none, none⟩ }, []) := by
  simp [dockUnlock, shut, Handover.left_eq, Books.setDock]

theorem dockUnlock_badState (unshut : (bk.docks.get d).state.shut = false) : dockUnlock d bk = .error .badState := by
  simp [dockUnlock, unshut]

theorem lockoutExpiry_due (locks : (bk.docks.get d).state = .lockout) (down : (bk.docks.get d).lockout = some 0) :
    lockoutExpiry d bk = some { next := bk.setDock d ((bk.docks.get d).left .idle) } := by
  simp [lockoutExpiry, locks, down]

end

theorem exec_openHandover {s : State} {c : Command} {d : Fin 2} (head : s.AtHead c 0x11)
    (reads : readIndex 2 c.params = some d) (room : s.ReplyRoom) :
    exec .openHandover s = .next (s.ruled c (openHandover d s.books)) :=
  congrArg _ (queuedBooks_ruled head reads room)

theorem exec_dockUnlock {s : State} {c : Command} {d : Fin 2} (head : s.AtHead c 0x12)
    (reads : readIndex 2 c.params = some d) (room : s.ReplyRoom) :
    exec .dockUnlock s = .next (s.ruled c (dockUnlock d s.books)) :=
  congrArg _ (queuedBooks_ruled head reads room)

theorem exec_lockoutTimerExpiry (d : Fin 2) (s : State) :
    exec (.lockoutTimerExpiry d) s = .next (bookExpiry (lockoutExpiry d) s) := rfl

/-- Settles O34: each command's owner by the dock's state, and each dock frame by its owner's first check. -/
theorem openHandoverAndUnlock : Obligations.OpenHandoverAndUnlock := by
  refine ⟨fun s c d head reads room => ⟨fun v arrived visit => ?opens, fun other => ?opensNot⟩,
    fun s i k p b x d row heard role payload dock state => ?frame,
    fun s d => ⟨fun locks down => ?expires, fun c head reads room => ⟨fun state => ?unlocks,
      fun running unlocked => ?unlocksNot⟩⟩⟩
  case opens =>
    rw [exec_openHandover head reads room, openHandover_arrived arrived visit]
    rfl
  case opensNot =>
    rw [exec_openHandover head reads room, openHandover_badState other]
    rfl
  case frame =>
    have shut := (DockState.shut_iff _).mpr state
    have may := Role.maySend_dock role dock
    rcases stationRow_dock row dock with
      ⟨rfl, rfl⟩ | ⟨rfl, rfl⟩ | ⟨rfl, rfl⟩ | ⟨rfl, rfl⟩ | ⟨rfl, rfl⟩ | ⟨rfl, rfl⟩
    · rw [exec_arriveBeacon, bookFrame_dockLocked heard may payload (arriveBeacon_shut role shut)]
    · rw [exec_departBeacon, bookFrame_dockLocked heard may payload (departBeacon_shut role shut)]
    · rw [exec_custodyPresent, bookFrame_dockLocked heard may payload (custodyPresent_shut role shut)]
    · rw [exec_itemOut, bookFrame_dockLocked heard may payload (itemOut_shut role shut)]
    · rw [exec_itemIn, bookFrame_dockLocked heard may payload (itemIn_shut role shut)]
    · have reads := readNothing_nil (List.isEmpty_iff.mp payload)
      rw [exec_handoverEnd, bookFrame_turnedAway heard may reads (handoverEnd_shut role shut)]
  case expires =>
    rw [exec_lockoutTimerExpiry, bookExpiry_due (lockoutExpiry_due locks down)]
    rfl
  case unlocks =>
    rw [exec_dockUnlock head reads room, dockUnlock_shut ((DockState.shut_iff _).mpr state)]
    rfl
  case unlocksNot =>
    rw [exec_dockUnlock head reads room, dockUnlock_badState (DockState.not_shut running unlocked)]
    rfl

end Sys2Proof.Machine

/-! ## Arrival -/

namespace Sys2Proof.Machine
open Sys2Proof

theorem Tables.courierValid_iff (T : Tables) (id : Nat) : T.courierValid id = true ↔
    id ≠ 0 ∧ ∃ i, (T.couriers.get i).id = id ∧ (T.couriers.get i).valid = true := by
  simp only [Tables.courierValid, Bool.and_eq_true, bne_iff_ne, Tab.rows_any_iff, beq_iff_eq]

theorem Tables.inWindow_iff (T : Tables) (d : Fin 2) (t : Nat) : T.inWindow d t = true ↔
    ∃ i, i.val / 8 = d.val ∧ (T.schedule.get i).used = true ∧ (T.schedule.get i).start ≤ t ∧
      t < (T.schedule.get i).stop := by
  simp [Tables.inWindow, ScheduleEntry.holds, and_assoc]

theorem Tables.inWindow_outside {T : Tables} {d : Fin 2} {t : Nat}
    (outside : ∀ i, i.val / 8 = d.val → (T.schedule.get i).used = true →
      t < (T.schedule.get i).start ∨ (T.schedule.get i).stop ≤ t) : T.inWindow d t = false := by
  rw [← Bool.not_eq_true, Tables.inWindow_iff]
  rintro ⟨i, dock, used, start, stop⟩
  have := outside i dock used
  omega

/-! R133: the three checks in order. -/

section
variable {x : Ctx} {d : Fin 2} {n : Nat}

theorem Ctx.arrivalRefusal_courier (unknown : x.tab.courierValid n = false) :
    x.arrivalRefusal d n = some .courierUnknown := by
  simp [Ctx.arrivalRefusal, unknown]

theorem Ctx.arrivalRefusal_clock (known : x.tab.courierValid n = true) (unset : x.clock.unset = true) :
    x.arrivalRefusal d n = some .timeUnset := by
  simp [Ctx.arrivalRefusal, known, unset]

theorem Ctx.arrivalRefusal_window (known : x.tab.courierValid n = true) (set : x.clock.unset = false)
    (outside : x.tab.inWindow d x.clock.tod = false) : x.arrivalRefusal d n = some .outsideWindow := by
  simp [Ctx.arrivalRefusal, known, set, outside]

theorem Ctx.arrivalRefusal_none (known : x.tab.courierValid n = true) (set : x.clock.unset = false)
    (inside : x.tab.inWindow d x.clock.tod = true) : x.arrivalRefusal d n = none := by
  simp [Ctx.arrivalRefusal, known, set, inside]

end

section
variable {x : Ctx} {bk : Books} {d : Fin 2} {n : Nat}

/-- R133, R134: a dock in IDLE, or in QUALIFYING for another courier, checks the courier. -/
def Handover.startsFor (h : Handover) (n : Nat) : Prop :=
  h.state = .idle ∨ (h.state = .qualifying ∧ ∀ v, h.visit = some v → v.courier ≠ n)

theorem arriveBeacon_fails {r : Reason} (role : x.entry.role = .dock d) (starts : (bk.docks.get d).startsFor n)
    (refused : x.arrivalRefusal d n = some r) : arriveBeacon x n bk = dockFaulted d r bk := by
  obtain idle | ⟨qualifying, others⟩ := starts
  · simp [arriveBeacon, role, idle, DockState.shut, refused]
  · simp [arriveBeacon, role, qualifying, DockState.shut, Handover.courierIs_other others, refused]

theorem arriveBeacon_qualifies (role : x.entry.role = .dock d) (starts : (bk.docks.get d).startsFor n)
    (passes : x.arrivalRefusal d n = none) :
    arriveBeacon x n bk = dockAccepted x d ((bk.docks.get d).startQualifying x n) bk [] [] := by
  obtain idle | ⟨qualifying, others⟩ := starts
  · simp [arriveBeacon, role, idle, DockState.shut, passes]
  · simp [arriveBeacon, role, qualifying, DockState.shut, Handover.courierIs_other others, passes]

theorem arriveBeacon_again (role : x.entry.role = .dock d) (qualifying : (bk.docks.get d).state = .qualifying)
    (same : (bk.docks.get d).courierIs n = true) :
    arriveBeacon x n bk = dockAccepted x d ((bk.docks.get d).gapRestarted x.tab.timing.beaconGap) bk [] [] := by
  simp [arriveBeacon, role, qualifying, DockState.shut, same]

theorem arriveBeacon_ignored (role : x.entry.role = .dock d)
    (present : (bk.docks.get d).state = .arrived ∨ (bk.docks.get d).state = .custody ∨
      (bk.docks.get d).state = .exchange ∨ (bk.docks.get d).state = .released ∨ (bk.docks.get d).state = .departing) :
    arriveBeacon x n bk = dockAccepted x d (bk.docks.get d) bk [] [] := by
  rcases present with st | st | st | st | st <;> simp [arriveBeacon, role, st, DockState.shut]

theorem Handover.gapRestarted_eq {h : Handover} {q : Qualification} (timed : h.qualify = some q) (gap : Nat) :
    h.gapRestarted gap = { h with qualify := some { q with gap := gap } } := by
  simp [Handover.gapRestarted, timed]

end

/-! R134: the end of the qualification and of its gap. -/

section
variable {T : Tables} {d : Fin 2} {bk : Books} {v : Visit} {q : Qualification}

theorem arrivalExpiry_fails (qualifying : (bk.docks.get d).state = .qualifying)
    (visit : (bk.docks.get d).visit = some v) (timed : (bk.docks.get d).qualify = some q) (down : q.qual = 0)
    (unknown : T.courierValid v.courier = false) : arrivalExpiry T d bk = some .fails := by
  obtain ⟨start, qual, gap⟩ := q
  subst down
  simp [arrivalExpiry, qualifying, visit, timed, unknown]

theorem arrivalExpiry_completes (qualifying : (bk.docks.get d).state = .qualifying)
    (visit : (bk.docks.get d).visit = some v) (timed : (bk.docks.get d).qualify = some q) (down : q.qual = 0)
    (known : T.courierValid v.courier = true) : arrivalExpiry T d bk = some (.completes {
      next := bk.setDock d { bk.docks.get d with
        state := if T.dockModes.get d = .auto then .custody else .arrived
        qualify := none, holders := [], deliveries := [], limit := some (T.timing.handoverLimit * 60) }
      sources := [.arrival] }) := by
  obtain ⟨start, qual, gap⟩ := q
  subst down
  cases mode : T.dockModes.get d <;> simp [arrivalExpiry, qualifying, visit, timed, known, mode]

theorem arrivalExpiry_running (qualifying : (bk.docks.get d).state = .qualifying)
    (timed : (bk.docks.get d).qualify = some q) (running : q.qual ≠ 0) : arrivalExpiry T d bk = none := by
  obtain ⟨start, qual, gap⟩ := q
  cases qual with
  | zero => exact absurd rfl running
  | succ _ => simp [arrivalExpiry, qualifying, timed]

theorem arrivalGap_due (qualifying : (bk.docks.get d).state = .qualifying)
    (timed : (bk.docks.get d).qualify = some q) (down : q.gap = 0) :
    arrivalGap d bk = some { next := bk.setDock d ((bk.docks.get d).left .idle) } := by
  obtain ⟨start, qual, gap⟩ := q
  subst down
  simp [arrivalGap, qualifying, timed]

theorem arrivalGap_running (qualifying : (bk.docks.get d).state = .qualifying)
    (timed : (bk.docks.get d).qualify = some q) (running : q.gap ≠ 0) : arrivalGap d bk = none := by
  obtain ⟨start, qual, gap⟩ := q
  cases gap with
  | zero => exact absurd rfl running
  | succ _ => simp [arrivalGap, qualifying, timed]

end

/-- R143: an expiry's fault names the terminal and the last kind of the visit. -/
theorem State.expiryFault_visit {s : State} {d : Fin 2} {v : Visit} (visit : (s.books.docks.get d).visit = some v)
    (r : Reason) :
    s.expiryFault d r = s.raiseDockFault s.activeTables.timing d v.station v.segment v.lastKind r := by
  simp [State.expiryFault, visit]

section
variable {d : Fin 2} {s : State}

theorem exec_arrivalQualificationExpiry_fails (ends : arrivalExpiry s.activeTables d s.books = some .fails) :
    exec (.arrivalQualificationExpiry d) s = .next (s.expiryFault d .courierUnknown) := by
  simp [exec, execArrivalQualificationExpiry, ends]

theorem exec_arrivalQualificationExpiry_completes {a : Accepted Books}
    (ends : arrivalExpiry s.activeTables d s.books = some (.completes a)) :
    exec (.arrivalQualificationExpiry d) s = .next ((s.withBooks a.next).setSources a.sources) := by
  simp [exec, execArrivalQualificationExpiry, ends, State.withBooks]

theorem exec_arrivalQualificationExpiry_running (runs : arrivalExpiry s.activeTables d s.books = none) :
    exec (.arrivalQualificationExpiry d) s = .next s := by
  simp [exec, execArrivalQualificationExpiry, runs]

theorem exec_arrivalGapExpiry : exec (.arrivalGapExpiry d) s = .next (bookExpiry (arrivalGap d) s) := rfl

end

/-- Settles O33: the beacon by the dock's state and the three checks on its courier, the expiries by their timers, and a
known courier by its entry. -/
theorem arrivalQualification : Obligations.ArrivalQualification := by
  refine ⟨⟨fun s p b x d n heard role reads => ?beacon, fun s d v q qualifying visit timed =>
    ⟨fun down unknown => ?fails, fun down known => ?completes, fun down => ?gap, fun running => ?qualRuns,
      fun running => ?gapRuns⟩⟩, Tables.courierValid_iff⟩
  case beacon =>
    have may : x.entry.role.maySend .arriveBeacon = true := Role.maySend_dock role (by decide)
    rw [exec_arriveBeacon, ← heard.clock]
    refine ⟨fun starts => ⟨fun unknown => ?unknown, fun known unset => ?unset, fun known set =>
      ⟨fun outside => ?outside, fun i dock used start stop => ?qualifies⟩⟩,
      fun v q qualifying visit same timed => ?again, fun present => ?ignored⟩
    case unknown =>
      rw [bookFrame_dockFaulted heard may reads (arriveBeacon_fails role starts (Ctx.arrivalRefusal_courier unknown))]
    case unset =>
      rw [bookFrame_dockFaulted heard may reads (arriveBeacon_fails role starts (Ctx.arrivalRefusal_clock known unset))]
    case outside =>
      rw [bookFrame_dockFaulted heard may reads
        (arriveBeacon_fails role starts (Ctx.arrivalRefusal_window known set (Tables.inWindow_outside outside)))]
    case qualifies =>
      have inside := (Tables.inWindow_iff _ d _).mpr ⟨i, dock, used, start, stop⟩
      rw [bookFrame_visitAccepted heard may reads
        (arriveBeacon_qualifies role starts (Ctx.arrivalRefusal_none known set inside)) rfl rfl]
      rfl
    case again =>
      have courier := (Handover.courierIs_iff _ _).mpr ⟨v, visit, same⟩
      rw [bookFrame_visitAccepted heard may reads (arriveBeacon_again role qualifying courier) qualifying visit,
        Handover.gapRestarted_eq timed]
      rfl
    case ignored =>
      rw [bookFrame_dockAccepted heard may reads (arriveBeacon_ignored role present) rfl, List.append_nil]
      rfl
  case fails =>
    rw [exec_arrivalQualificationExpiry_fails (arrivalExpiry_fails qualifying visit timed down unknown),
      State.expiryFault_visit visit]
  case completes =>
    rw [exec_arrivalQualificationExpiry_completes (arrivalExpiry_completes qualifying visit timed down known)]
    rfl
  case gap =>
    rw [exec_arrivalGapExpiry, bookExpiry_due (arrivalGap_due qualifying timed down)]
    rfl
  case qualRuns => rw [exec_arrivalQualificationExpiry_running (arrivalExpiry_running qualifying timed running)]
  case gapRuns => rw [exec_arrivalGapExpiry, bookExpiry_running (arrivalGap_running qualifying timed running)]

end Sys2Proof.Machine

/-! ## Departure and the handover timer -/

namespace Sys2Proof.Machine
open Sys2Proof

section
variable {x : Ctx} {bk : Books} {d : Fin 2} {n : Nat}

/-- R141: a beacon of another courier, or one before RELEASED. -/
theorem departBeacon_ignored (role : x.entry.role = .dock d) (unshut : (bk.docks.get d).state.shut = false)
    (ignored : (bk.docks.get d).courierIs n = false ∨
      ((bk.docks.get d).state ≠ .released ∧ (bk.docks.get d).state ≠ .departing)) :
    departBeacon x n bk = dockAccepted x d (bk.docks.get d) bk [] [] := by
  obtain other | ⟨unreleased, staying⟩ := ignored
  · simp [departBeacon, role, unshut, other]
  · simp [departBeacon, role, unshut, unreleased, staying]

variable (role : x.entry.role = .dock d) (same : (bk.docks.get d).courierIs n = true)
include role same

theorem departBeacon_released (released : (bk.docks.get d).state = .released) :
    departBeacon x n bk = dockAccepted x d { bk.docks.get d with
      state := .departing
      qualify := some ⟨x.clock.tod, x.tab.timing.departureQual, x.tab.timing.beaconGap⟩ } bk [] [] := by
  simp [departBeacon, role, released, DockState.shut, same]

theorem departBeacon_departing (departing : (bk.docks.get d).state = .departing) :
    departBeacon x n bk = dockAccepted x d ((bk.docks.get d).gapRestarted x.tab.timing.beaconGap) bk [] [] := by
  simp [departBeacon, role, departing, DockState.shut, same]

end

section
variable {d : Fin 2} {bk : Books} {q : Qualification}

theorem departureExpiry_due (departing : (bk.docks.get d).state = .departing)
    (timed : (bk.docks.get d).qualify = some q) (down : q.qual = 0) :
    departureExpiry d bk = some { next := bk.setDock d ((bk.docks.get d).left .idle) } := by
  obtain ⟨start, qual, gap⟩ := q
  subst down
  simp [departureExpiry, departing, timed]

theorem departureGap_due (departing : (bk.docks.get d).state = .departing)
    (timed : (bk.docks.get d).qualify = some q) (down : q.gap = 0) :
    departureGap d bk =
      some { next := bk.setDock d { bk.docks.get d with state := .released, qualify := none } } := by
  obtain ⟨start, qual, gap⟩ := q
  subst down
  simp [departureGap, departing, timed]

/-- R142: the timer of a handover whose items have not left. -/
theorem limitExpiry_faults (down : (bk.docks.get d).limit = some 0)
    (present : (bk.docks.get d).state = .arrived ∨ (bk.docks.get d).state = .custody ∨
      (bk.docks.get d).state = .exchange) : limitExpiry d bk = some .faults := by
  rcases present with st | st | st <;> simp [limitExpiry, down, st]

/-- R142: the timer of a handover whose departure is not confirmed. -/
theorem limitExpiry_ends (down : (bk.docks.get d).limit = some 0)
    (leaving : (bk.docks.get d).state = .released ∨ (bk.docks.get d).state = .departing) :
    limitExpiry d bk = some (.ends {
      next := bk.setDock d ((bk.docks.get d).left .idle), sources := [.departureUnconfirmed] }) := by
  rcases leaving with st | st <;> simp [limitExpiry, down, st]

end

section
variable {d : Fin 2} {s : State}

theorem exec_departureQualificationExpiry :
    exec (.departureQualificationExpiry d) s = .next (bookExpiry (departureExpiry d) s) := rfl

theorem exec_departureGapExpiry : exec (.departureGapExpiry d) s = .next (bookExpiry (departureGap d) s) := rfl

theorem exec_handoverTimerExpiry_faults (ends : limitExpiry d s.books = some .faults) :
    exec (.handoverTimerExpiry d) s = .next (s.expiryFault d .handoverTimeout) := by
  simp [exec, execHandoverTimerExpiry, ends]

theorem exec_handoverTimerExpiry_ends {a : Accepted Books} (ends : limitExpiry d s.books = some (.ends a)) :
    exec (.handoverTimerExpiry d) s = .next ((s.withBooks a.next).setSources a.sources) := by
  simp [exec, execHandoverTimerExpiry, ends, State.withBooks]

end

/-- Settles O38: the beacon by its courier and the dock's state, the expiries by their timers and the dock's state. -/
theorem departureAndHandoverTimer : Obligations.DepartureAndHandoverTimer := by
  refine ⟨fun s d p b x n heard role reads => ?beacon, fun s d q departing timed =>
    ⟨fun down => ?departed, fun down => ?gap⟩, fun s d v visit down => ⟨fun present => ?faults, fun leaving => ?ends⟩⟩
  case beacon =>
    have may : x.entry.role.maySend .departBeacon = true := Role.maySend_dock role (by decide)
    rw [exec_departBeacon, ← heard.clock]
    refine ⟨fun running unlocked ignored => ?ignored, fun v visit same =>
      ⟨fun released => ?released, fun q departing timed => ?departing⟩⟩
    case ignored =>
      rw [bookFrame_dockAccepted heard may reads (departBeacon_ignored role (DockState.not_shut running unlocked)
        (ignored.imp_left Handover.courierIs_other)) rfl, List.append_nil]
      rfl
    all_goals have courier := (Handover.courierIs_iff _ _).mpr ⟨v, visit, same⟩
    case released =>
      rw [bookFrame_visitAccepted heard may reads (departBeacon_released role courier released) rfl visit]
      rfl
    case departing =>
      rw [bookFrame_visitAccepted heard may reads (departBeacon_departing role courier departing) departing visit,
        Handover.gapRestarted_eq timed]
      rfl
  case departed =>
    rw [exec_departureQualificationExpiry, bookExpiry_due (departureExpiry_due departing timed down)]
    rfl
  case gap =>
    rw [exec_departureGapExpiry, bookExpiry_due (departureGap_due departing timed down)]
    rfl
  case faults =>
    rw [exec_handoverTimerExpiry_faults (limitExpiry_faults down present), State.expiryFault_visit visit]
  case ends =>
    rw [exec_handoverTimerExpiry_ends (limitExpiry_ends down leaving)]
    rfl

end Sys2Proof.Machine

/-! ## CUSTODY_PRESENT and the pairing timer -/

namespace Sys2Proof.Machine
open Sys2Proof

section
variable {x : Ctx} {bk : Books} {d : Fin 2} {n : Nat} (role : x.entry.role = .dock d)
include role

theorem custodyPresent_badState (other : (bk.docks.get d).state ≠ .custody)
    (unshut : (bk.docks.get d).state.shut = false) : custodyPresent x n bk = .no .badState bk := by
  simp [custodyPresent, role, unshut, other]

variable (custody : (bk.docks.get d).state = .custody)
include custody

theorem custodyPresent_staff (fails : x.tab.staffPasses n x.entry.domain (·.keyHolder) = false) :
    custodyPresent x n bk = .reported .staffNotPermitted bk := by
  simp [custodyPresent, role, custody, DockState.shut, fails]

variable (passes : x.tab.staffPasses n x.entry.domain (·.keyHolder) = true)
include passes

theorem custodyPresent_first (nobody : (bk.docks.get d).holders = []) : custodyPresent x n bk =
    dockAccepted x d { bk.docks.get d with holders := [n], pairing := some x.tab.timing.pairing } bk [] [] := by
  simp [custodyPresent, role, custody, DockState.shut, passes, nobody]

theorem custodyPresent_again (same : (bk.docks.get d).holders = [n]) :
    custodyPresent x n bk = dockAccepted x d (bk.docks.get d) bk [] [] := by
  simp [custodyPresent, role, custody, DockState.shut, passes, same]

theorem custodyPresent_second {m : Nat} (held : (bk.docks.get d).holders = [m]) (other : m ≠ n) :
    custodyPresent x n bk = pair x d n bk := by
  simp [custodyPresent, role, custody, DockState.shut, passes, held, other.symm]

end

/-- R137: the consignments given come to the dock, unscanned. -/
def Books.bringToDock (bk : Books) (ks : List (Fin 8)) : Books :=
  { bk with consigns := bk.consigns.mapIx fun k c => if ks.contains k then c.cleared .atDock else c }

theorem Books.bringToDock_get (bk : Books) (ks : List (Fin 8)) (k : Fin 8) : (bk.bringToDock ks).consigns.get k =
    if k ∈ ks then (bk.consigns.get k).cleared .atDock else bk.consigns.get k := by
  simp [Books.bringToDock]

/-- The consignments keep their items as they come to the dock. -/
theorem Books.bringToDock_length (bk : Books) (ks : List (Fin 8)) (k : Fin 8) :
    ((bk.bringToDock ks).consigns.get k).items.length = (bk.consigns.get k).items.length := by
  rw [Books.bringToDock_get]
  split <;> simp [Consignment.cleared]

theorem Books.countItems_all (bk : Books) (ks : List (Fin 8)) :
    bk.countItems ks (fun _ => true) = (ks.map fun k => (bk.consigns.get k).items.length).sum := by
  have all_pass (ls : List ConsignLine) : ls.filter (fun _ => true) = ls := List.filter_eq_self.mpr fun _ _ => rfl
  simp only [Books.countItems, all_pass]

/-- R137: the pairing complete, the dock in EXCHANGE with its READY consignments. -/
theorem pair_eq {bk : Books} {d : Fin 2} {m : Nat} (x : Ctx) (n : Nat) (held : (bk.docks.get d).holders = [m]) :
    pair x d n bk = dockAccepted x d
      { bk.docks.get d with state := .exchange, holders := [m, n], pairing := none, atDock := bk.readyFor d }
      (bk.bringToDock (bk.readyFor d))
      (twoBytes (bk.readyFor d).length ++
        twoBytes ((bk.readyFor d).map fun k => (bk.consigns.get k).items.length).sum) [] := by
  have count : (bk.bringToDock (bk.readyFor d)).countItems (bk.readyFor d) (fun _ => true) =
      ((bk.readyFor d).map fun k => (bk.consigns.get k).items.length).sum := by
    simp only [Books.countItems_all, Books.bringToDock_length]
  rw [← count]
  simp only [pair, held]
  rfl

theorem pairingDue_one {bk : Books} {d : Fin 2} {m : Nat} (custody : (bk.docks.get d).state = .custody)
    (held : (bk.docks.get d).holders = [m]) (down : (bk.docks.get d).pairing = some 0) : pairingDue d bk = true := by
  simp [pairingDue, custody, held, down]

theorem exec_pairingTimerExpiry_due {d : Fin 2} {s : State} (due : pairingDue d s.books = true) :
    exec (.pairingTimerExpiry d) s = .next (s.expiryFault d .pairingTimeout) := by
  simp [exec, execPairingTimerExpiry, due]

/-- Settles O35: the frame by the dock's state, the staff check and the key holders listed, the expiry by its timer. -/
theorem custodyPairing : Obligations.CustodyPairing := by
  have mayPresent {x : Ctx} {d : Fin 2} (role : x.entry.role = .dock d) :
      x.entry.role.maySend .custodyPresent = true := Role.maySend_dock role (by decide)
  refine ⟨fun s p b x d n heard role reads other running unlocked => ?badState, fun s d v custody visit =>
    ⟨fun p b x n heard role reads => ?frame, fun m held down => ?expires⟩⟩
  case badState =>
    rw [exec_custodyPresent, bookFrame_turnedAway heard (mayPresent role) reads
      (custodyPresent_badState role other (DockState.not_shut running unlocked))]
  case frame =>
    have may := mayPresent role
    rw [exec_custodyPresent]
    refine ⟨fun fails => ?staff, fun passes => ⟨fun nobody => ?first, fun m held => ⟨fun same => ?again,
      fun other => ?second⟩⟩⟩
    case staff => rw [bookFrame_reported heard may reads (custodyPresent_staff role custody fails)]
    case first =>
      rw [bookFrame_visitAccepted heard may reads (custodyPresent_first role custody passes nobody) custody visit]
      rfl
    case again =>
      subst same
      rw [bookFrame_visitAccepted heard may reads (custodyPresent_again role custody passes held) custody visit]
      rfl
    case second =>
      have paired := (custodyPresent_second role custody passes held other).trans (pair_eq x n held)
      refine ⟨{ s.books.bringToDock (s.books.readyFor d) with
        docks := s.books.docks.set d { s.books.docks.get d with
          state := .exchange, holders := [m, n], pairing := none, atDock := s.books.readyFor d
          visit := some { v with lastKind := x.kind } } },
        s.books.readyFor d, ?_, rfl, rfl, s.books.bringToDock_get _⟩
      rw [bookFrame_visitAccepted heard may reads paired rfl visit, ← List.append_assoc]
      rfl
  case expires =>
    rw [exec_pairingTimerExpiry_due (pairingDue_one custody held down), State.expiryFault_visit visit]

end Sys2Proof.Machine

/-! ## ITEM_OUT and ITEM_IN -/

namespace Sys2Proof.Machine
open Sys2Proof

/-! R138: the item of a number at the dock. -/

section
variable {bk : Books} {ks : List (Fin 8)} {n : Nat} {k : Fin 8} {l : ConsignLine}

theorem Books.findItem_sound (found : bk.findItem ks n = some (k, l)) :
    k ∈ ks ∧ l ∈ (bk.consigns.get k).items ∧ bk.itemNumber l.item = n := by
  obtain ⟨j, listed, first⟩ := List.exists_of_findSome?_eq_some found
  obtain ⟨m, here, same⟩ := Option.map_eq_some_iff.mp first
  cases same
  exact ⟨listed, List.mem_of_find?_eq_some here, by simpa using List.find?_some here⟩

theorem Books.findItem_none (others : ∀ k ∈ ks, ∀ l ∈ (bk.consigns.get k).items, bk.itemNumber l.item ≠ n) :
    bk.findItem ks n = none := by
  rw [Option.eq_none_iff_forall_ne_some]
  rintro ⟨k, l⟩ found
  obtain ⟨listed, item, number⟩ := Books.findItem_sound found
  exact others k listed l item number

/-- Some item carries the number, so one is found, and only one can be. -/
theorem Books.findItem_only (listed : k ∈ ks) (item : l ∈ (bk.consigns.get k).items)
    (number : bk.itemNumber l.item = n)
    (only : ∀ j m, j ∈ ks → m ∈ (bk.consigns.get j).items → bk.itemNumber m.item = n → j = k ∧ m = l) :
    bk.findItem ks n = some (k, l) := by
  cases found : bk.findItem ks n with
  | none =>
    have absent := List.findSome?_eq_none_iff.mp found k listed
    rw [Option.map_eq_none_iff, List.find?_eq_none] at absent
    exact absurd (beq_iff_eq.mpr number) (absent l item)
  | some r =>
    obtain ⟨j, m⟩ := r
    obtain ⟨listed', item', number'⟩ := Books.findItem_sound found
    obtain ⟨rfl, rfl⟩ := only j m listed' item' number'
    rfl

theorem Books.itemNumber_deposit {i : Fin 512} {d : Deposit} (used : bk.deposits.get i = some d) :
    bk.itemNumber (.deposit i) = d.number := by
  simp [Books.itemNumber, used]

end

section
variable {x : Ctx} {bk : Books} {d : Fin 2} (role : x.entry.role = .dock d)
include role

section
variable {n : Nat}

theorem itemOut_badState (other : (bk.docks.get d).state ≠ .exchange) (unshut : (bk.docks.get d).state.shut = false) :
    itemOut x n bk = .no .badState bk := by
  simp [itemOut, role, unshut, other]

variable (exchange : (bk.docks.get d).state = .exchange)
include exchange

theorem itemOut_unknown (unknown : bk.findItem (bk.docks.get d).atDock n = none) :
    itemOut x n bk = dockFaulted d .unknownNumber bk := by
  simp [itemOut, role, exchange, DockState.shut, unknown]

variable {k : Fin 8} {l : ConsignLine} (found : bk.findItem (bk.docks.get d).atDock n = some (k, l))
include found

theorem itemOut_twice (scanned : l.scanned = true) : itemOut x n bk = .no .duplicateNumber bk := by
  simp [itemOut, role, exchange, DockState.shut, found, scanned]

theorem itemOut_scans (unscanned : l.scanned = false) : itemOut x n bk =
    dockAccepted x d (bk.docks.get d) (bk.setConsign k ((bk.consigns.get k).scan l))
      (oneByte k.val ++ twoBytes ((bk.setConsign k ((bk.consigns.get k).scan l)).countItems (bk.docks.get d).atDock
        fun l => !l.scanned)) [] := by
  simp [itemOut, role, exchange, DockState.shut, found, unscanned]

end

section
variable {q : Container}

theorem itemIn_badState (other : (bk.docks.get d).state ≠ .exchange) (unshut : (bk.docks.get d).state.shut = false) :
    itemIn x q bk = .no .badState bk := by
  simp [itemIn, role, unshut, other]

variable (exchange : (bk.docks.get d).state = .exchange)
include exchange

theorem itemIn_full (full : 16 ≤ (bk.docks.get d).deliveries.length) : itemIn x q bk = .no .badState bk := by
  simp [itemIn, role, exchange, DockState.shut, full]

variable (room : (bk.docks.get d).deliveries.length < 16)
include room

theorem itemIn_currencyDisabled (off : x.tab.currenciesEnabled q.list = false) :
    itemIn x q bk = .no .currencyDisabled bk := by
  simp [itemIn, role, exchange, DockState.shut, Nat.not_le.mpr room, off]

variable (on : x.tab.currenciesEnabled q.list = true)
include on

theorem itemIn_uncreated {r : Reason} (refuses : bk.create x.tab x.clock.tod ⟨.delivery, q.number, .dock d, q.list⟩
    (deliveryMove (storedList q.list)) = .error r) : itemIn x q bk = .no r bk := by
  simp [itemIn, role, exchange, DockState.shut, Nat.not_le.mpr room, on, refuses]

theorem itemIn_created {bk' : Books} {i : Fin 512}
    (creates : bk.create x.tab x.clock.tod ⟨.delivery, q.number, .dock d, q.list⟩
      (deliveryMove (storedList q.list)) = .ok (bk', i)) : itemIn x q bk =
    dockAccepted x d { bk.docks.get d with deliveries := (bk.docks.get d).deliveries ++ [i] } bk'
      (twoBytes i.val) [] := by
  simp [itemIn, role, exchange, DockState.shut, Nat.not_le.mpr room, on, creates]

end

end

/-- Settles O36: the item found by its number and whether it is scanned, the delivery by the dock's room, its currencies
and its creation request. -/
theorem itemsGoOutAndIn : Obligations.ItemsGoOutAndIn := by
  have mayOut {x : Ctx} {d : Fin 2} (role : x.entry.role = .dock d) : x.entry.role.maySend .itemOut = true :=
    Role.maySend_dock role (by decide)
  have mayIn {x : Ctx} {d : Fin 2} (role : x.entry.role = .dock d) : x.entry.role.maySend .itemIn = true :=
    Role.maySend_dock role (by decide)
  refine ⟨fun s p b x d role other running unlocked => ⟨fun n heard reads => ?outBadState,
      fun q heard reads => ?inBadState⟩,
    fun bk ks n k l => Books.findItem_only, fun bk ks n k l => Books.findItem_sound,
    fun bk n src a i d => ⟨rfl, Books.itemNumber_deposit⟩,
    fun s p b x d q heard role reads exchange room off => ?currency,
    fun s p b x d v n heard role reads exchange visit => ⟨fun others => ?unknown, fun k l found =>
      ⟨fun scanned => ?twice, fun unscanned => ?scans⟩⟩,
    fun s p b x d v q heard role reads exchange visit => ⟨fun full => ?full, fun room on =>
      ⟨fun r refuses => ?uncreated, fun bk i creates => ?created⟩⟩⟩
  case outBadState =>
    rw [exec_itemOut, bookFrame_turnedAway heard (mayOut role) reads
      (itemOut_badState role other (DockState.not_shut running unlocked))]
  case inBadState =>
    rw [exec_itemIn, bookFrame_turnedAway heard (mayIn role) reads
      (itemIn_badState role other (DockState.not_shut running unlocked))]
  case currency =>
    rw [exec_itemIn, bookFrame_turnedAway heard (mayIn role) reads (itemIn_currencyDisabled role exchange room off)]
  case unknown =>
    rw [exec_itemOut, bookFrame_dockFaulted heard (mayOut role) reads
      (itemOut_unknown role exchange (Books.findItem_none others))]
  case twice =>
    rw [exec_itemOut, bookFrame_turnedAway heard (mayOut role) reads (itemOut_twice role exchange found scanned)]
  case scans =>
    refine ⟨_, rfl, ?_⟩
    rw [exec_itemOut, bookFrame_visitAccepted heard (mayOut role) reads (itemOut_scans role exchange found unscanned)
      exchange visit, ← List.append_assoc]
    rfl
  case full =>
    rw [exec_itemIn, bookFrame_turnedAway heard (mayIn role) reads (itemIn_full role exchange full)]
  case uncreated =>
    rw [exec_itemIn, bookFrame_turnedAway heard (mayIn role) reads (itemIn_uncreated role exchange room on refuses)]
  case created =>
    have kept : bk.docks = s.books.docks := by rw [Books.create_frame creates]
    rw [exec_itemIn, bookFrame_visitAccepted heard (mayIn role) reads (itemIn_created role exchange room on creates)
      exchange visit, kept]
    rfl

end Sys2Proof.Machine

/-! ## Building and unloading a consignment -/

namespace Sys2Proof.Machine
open Sys2Proof

section
variable {s : State} {c : Command} (room : s.ReplyRoom)
include room

theorem exec_consignCreate {d : Fin 2} (head : s.AtHead c 0x0B) (reads : readIndex 2 c.params = some d) :
    exec .consignCreate s = .next (s.ruled c (consignCreate d s.books)) :=
  congrArg _ (queuedBooks_ruled head reads room)

theorem exec_consignLoad {q : ConsignLoad} (head : s.AtHead c 0x0C) (reads : readConsignLoad c.params = some q) :
    exec .consignLoad s = .next (s.ruled c (consignLoad s.activeTables q s.books)) :=
  congrArg _ (queuedBooks_ruled head reads room)

theorem exec_consignAdd {q : ConsignAdd} (head : s.AtHead c 0x0D) (reads : readConsignAdd c.params = some q) :
    exec .consignAdd s = .next (s.ruled c (consignAdd q s.books)) :=
  congrArg _ (queuedBooks_ruled head reads room)

theorem exec_consignRemove {q : ConsignRemove} (head : s.AtHead c 0x0E)
    (reads : readConsignRemove c.params = some q) :
    exec .consignRemove s = .next (s.ruled c (consignRemove q s.books)) :=
  congrArg _ (queuedBooks_ruled head reads room)

theorem exec_consignReady {k : Fin 8} (head : s.AtHead c 0x0F) (reads : readIndex 8 c.params = some k) :
    exec .consignReady s = .next (s.ruled c (consignReady k s.books)) :=
  congrArg _ (queuedBooks_ruled head reads room)

theorem exec_consignCancel {k : Fin 8} (head : s.AtHead c 0x10) (reads : readIndex 8 c.params = some k) :
    exec .consignCancel s = .next (s.ruled c (consignCancel k s.books)) :=
  congrArg _ (queuedBooks_ruled head reads room)

end

/-! ### CONSIGN_CREATE -/

section
variable {bk : Books} {d : Fin 2}

theorem consignCreate_full (used : ∀ k, (bk.consigns.get k).state ≠ .free) :
    consignCreate d bk = .error .consignmentFull := by
  have unfound : bk.consigns.firstIx (fun c => c.state == .free) = none :=
    Tab.firstIx_eq_none fun k => by simpa using used k
  simp [consignCreate, unfound]

/-- R125: the lowest FREE consignment. -/
theorem consignCreate_ok {k : Fin 8} (free : (bk.consigns.get k).state = .free)
    (lowest : ∀ j, j < k → (bk.consigns.get j).state ≠ .free) :
    consignCreate d bk = .ok (bk.setConsign k ⟨.building, some d, []⟩, oneByte k.val) := by
  have found : bk.consigns.firstIx (fun c => c.state == .free) = some k :=
    Tab.firstIx_eq_some (by simp [free]) fun j below => by simpa using lowest j below
  simp [consignCreate, found]

end

/-! ### CONSIGN_LOAD -/

section
variable {T : Tables} {q : ConsignLoad} {bk : Books}

theorem consignLoad_badState (other : (bk.consigns.get q.consignment).state ≠ .building) :
    consignLoad T q bk = .error .badState := by
  simp [consignLoad, other]

variable (building : (bk.consigns.get q.consignment).state = .building)
include building

theorem consignLoad_full (full : 48 ≤ (bk.consigns.get q.consignment).items.length) :
    consignLoad T q bk = .error .consignmentFull := by
  simp [consignLoad, building, full]

variable (space : (bk.consigns.get q.consignment).items.length < 48)
include space

theorem consignLoad_currencyDisabled (off : T.currenciesEnabled q.list = false) :
    consignLoad T q bk = .error .currencyDisabled := by
  simp [consignLoad, building, Nat.not_le.mpr space, off]

variable (on : T.currenciesEnabled q.list = true)
include on

theorem consignLoad_duplicate (inUse : bk.numberInUse q.bag = true) : consignLoad T q bk = .error .duplicateNumber := by
  simp [consignLoad, building, Nat.not_le.mpr space, on, inUse]

variable (fresh : bk.numberInUse q.bag = false)
include fresh

theorem consignLoad_refused {r : Reason}
    (refuses : bk.pos.present (loadMove q.consignment q.source (storedList q.list)) = .error r) :
    consignLoad T q bk = .error r := by
  simp [consignLoad, building, Nat.not_le.mpr space, on, fresh, Books.move_refused refuses]

/-- R126: the cash loaded and the bag at the end of the list. -/
theorem consignLoad_ok {pos : Positions}
    (moves : bk.pos.present (loadMove q.consignment q.source (storedList q.list)) = .ok pos) :
    consignLoad T q bk = .ok (({ bk with pos := pos } : Books).setConsign q.consignment
        { bk.consigns.get q.consignment with items := (bk.consigns.get q.consignment).items ++
          [⟨.bag q.bag q.source (storedList q.list), false⟩] },
      twoBytes ((bk.consigns.get q.consignment).items.length + 1) ++ listBytes (pos.loaded.get q.consignment)) := by
  simp [consignLoad, building, Nat.not_le.mpr space, on, fresh, Books.move_ok moves]

end

/-! ### CONSIGN_ADD -/

section
variable {q : ConsignAdd} {bk : Books}

theorem consignAdd_badState (other : (bk.consigns.get q.consignment).state ≠ .building) :
    consignAdd q bk = .error .badState := by
  simp [consignAdd, other]

variable (building : (bk.consigns.get q.consignment).state = .building)
include building

theorem consignAdd_full (full : 48 ≤ (bk.consigns.get q.consignment).items.length) :
    consignAdd q bk = .error .consignmentFull := by
  simp [consignAdd, building, full]

variable (space : (bk.consigns.get q.consignment).items.length < 48)
include space

theorem consignAdd_unclaimed {r : Reason}
    (refuses : bk.claim q.deposit .awaitingCount .depositBusy .unknownDeposit = .error r) :
    consignAdd q bk = .error r := by
  simp [consignAdd, building, Nat.not_le.mpr space, refuses]

/-- R127: the deposit held by the consignment, at the end of its list. -/
theorem consignAdd_claimed {d : Deposit}
    (claims : bk.claim q.deposit .awaitingCount .depositBusy .unknownDeposit = .ok d) :
    consignAdd q bk = .ok ((bk.setDeposit q.deposit
        { d with state := .consigned, holder := some (.consignment q.consignment) }).setConsign q.consignment
          { bk.consigns.get q.consignment with items := (bk.consigns.get q.consignment).items ++
            [⟨.deposit q.deposit, false⟩] },
      twoBytes ((bk.consigns.get q.consignment).items.length + 1) ++ fourBytes d.number) := by
  simp [consignAdd, building, Nat.not_le.mpr space, claims]

end

/-! ### CONSIGN_REMOVE -/

theorem ItemName.names_bag (n : Nat) (i : Item) :
    (ItemName.bag n).names i = true ↔ ∃ src a, i = .bag n src a := by
  cases i <;> simp [ItemName.names, eq_comm (a := n)]

theorem ItemName.names_deposit (d : Fin 512) (i : Item) :
    (ItemName.deposit d).names i = true ↔ i = .deposit d := by
  cases i <;> simp [ItemName.names, eq_comm (a := d)]

/-- R128: the first line that is the one taken out goes; those before and after it stay in their order. -/
theorem Consignment.without_eq {c : Consignment} {before after : List ConsignLine} {l : ConsignLine}
    (split : c.items = before ++ l :: after) (first : l ∉ before) : c.without l = { c with
      items := before ++ after, state := if before ++ after = [] then .building else c.state } := by
  have erased : c.items.erase l = before ++ after := by
    rw [split, List.erase_append_right _ first, List.erase_cons_head]
  simp only [Consignment.without, erased]

/-- R128, R130: a consignment that items may leave. -/
def ConsignState.unloads (st : ConsignState) : Prop := st = .building ∨ st = .ready

/-- What the answer of a CONSIGN_REMOVE gives: the items left, and the consignment's state. -/
def removeAnswer (c : Consignment) : List Byte := twoBytes c.items.length ++ oneByte c.state.code

section
variable {q : ConsignRemove} {bk : Books}

theorem consignRemove_badState (building : (bk.consigns.get q.consignment).state ≠ .building)
    (ready : (bk.consigns.get q.consignment).state ≠ .ready) : consignRemove q bk = .error .badState := by
  simp [consignRemove, building, ready]

variable (unloads : (bk.consigns.get q.consignment).state.unloads)
include unloads

theorem consignRemove_unknownNumber {n : Nat} (named : q.item = .bag n)
    (absent : ∀ l ∈ (bk.consigns.get q.consignment).items, ∀ src a, l.item ≠ .bag n src a) :
    consignRemove q bk = .error .unknownNumber := by
  have unfound : (bk.consigns.get q.consignment).items.find? (fun l => q.item.names l.item) = none := by
    rw [List.find?_eq_none]
    intro l here
    rw [named, ItemName.names_bag]
    exact fun ⟨src, a, same⟩ => absent l here src a same
  rcases unloads with st | st <;> simp [consignRemove, st, unfound] <;> rw [named]

theorem consignRemove_unknownDeposit {i : Fin 512} (named : q.item = .deposit i)
    (absent : ∀ l ∈ (bk.consigns.get q.consignment).items, l.item ≠ .deposit i) :
    consignRemove q bk = .error .unknownDeposit := by
  have unfound : (bk.consigns.get q.consignment).items.find? (fun l => q.item.names l.item) = none := by
    rw [List.find?_eq_none]
    intro l here
    rw [named, ItemName.names_deposit]
    exact absent l here
  rcases unloads with st | st <;> simp [consignRemove, st, unfound] <;> rw [named]

variable {l : ConsignLine}
  (found : (bk.consigns.get q.consignment).items.find? (fun l => q.item.names l.item) = some l)
include found

theorem consignRemove_refused {n : Nat} {src : BagSource} {a : Amounts} {r : Reason} (bag : l.item = .bag n src a)
    (refuses : bk.pos.present (unloadMove q.consignment [(src, a)]) = .error r) : consignRemove q bk = .error r := by
  rcases unloads with st | st <;> simp [consignRemove, st, found, bag, Books.move_refused refuses]

/-- R128: the bag's cash back to its source. -/
theorem consignRemove_bag {n : Nat} {src : BagSource} {a : Amounts} {pos : Positions} (bag : l.item = .bag n src a)
    (moves : bk.pos.present (unloadMove q.consignment [(src, a)]) = .ok pos) : consignRemove q bk =
      .ok (({ bk with pos := pos } : Books).setConsign q.consignment ((bk.consigns.get q.consignment).without l),
        removeAnswer ((bk.consigns.get q.consignment).without l)) := by
  rcases unloads with st | st <;> simp [consignRemove, st, found, bag, Books.move_ok moves, removeAnswer]

/-- R128: the deposit awaits its count again, held by nobody. -/
theorem consignRemove_deposit {i : Fin 512} {d : Deposit} (item : l.item = .deposit i)
    (used : bk.deposits.get i = some d) : consignRemove q bk =
      .ok ((bk.setDeposit i d.returned).setConsign q.consignment ((bk.consigns.get q.consignment).without l),
        removeAnswer ((bk.consigns.get q.consignment).without l)) := by
  rcases unloads with st | st <;>
    simp [consignRemove, st, found, item, Books.changeDeposits_one used, removeAnswer]

end

/-! ### CONSIGN_READY and CONSIGN_CANCEL -/

section
variable {k : Fin 8} {bk : Books}

theorem consignReady_ok (building : (bk.consigns.get k).state = .building) (items : (bk.consigns.get k).items ≠ []) :
    consignReady k bk = .ok (bk.setConsign k { bk.consigns.get k with state := .ready }, []) := by
  simp [consignReady, building, items]

theorem consignReady_badState (bad : (bk.consigns.get k).state ≠ .building ∨ (bk.consigns.get k).items = []) :
    consignReady k bk = .error .badState := by
  simp [consignReady, bad]

theorem consignCancel_atDock (atDock : (bk.consigns.get k).state = .atDock) :
    consignCancel k bk = .error .consignmentAtDock := by
  simp [consignCancel, atDock]

theorem consignCancel_badState (free : (bk.consigns.get k).state = .free) : consignCancel k bk = .error .badState := by
  simp [consignCancel, free]

variable (unloads : (bk.consigns.get k).state.unloads)
include unloads

theorem consignCancel_refused {r : Reason}
    (refuses : bk.pos.present (unloadMove k (bk.consigns.get k).bagItems) = .error r) :
    consignCancel k bk = .error r := by
  rcases unloads with st | st <;> simp [consignCancel, st, Books.move_refused refuses]

/-- R130: every bag's cash back to its source, every deposit returned, and the consignment FREE. -/
theorem consignCancel_ok {pos : Positions}
    (moves : bk.pos.present (unloadMove k (bk.consigns.get k).bagItems) = .ok pos) : consignCancel k bk =
      .ok ((({ bk with pos := pos } : Books).changeDeposits (bk.consigns.get k).depositItems
          Deposit.returned).setConsign k Consignment.free,
        twoBytes (bk.consigns.get k).bagItems.length ++ twoBytes (bk.consigns.get k).depositItems.length) := by
  rcases unloads with st | st <;> simp [consignCancel, st, Books.move_ok moves]

end

/-! ### The items of a consignment -/

theorem Consignment.items_nil {c : Consignment} (empty : c.items = []) : c.bagItems = [] ∧ c.depositItems = [] := by
  simp [Consignment.bagItems, Consignment.depositItems, empty]

section
variable {c : Consignment} {l : ConsignLine} {rest : List ConsignLine} (items : c.items = l :: rest)
include items

theorem Consignment.items_bag {n : Nat} {src : BagSource} {a : Amounts} (bag : l.item = .bag n src a) :
    c.bagItems = (src, a) :: { c with items := rest }.bagItems ∧
      c.depositItems = { c with items := rest }.depositItems := by
  simp [Consignment.bagItems, Consignment.depositItems, items, bag]

theorem Consignment.items_deposit {i : Fin 512} (deposit : l.item = .deposit i) :
    c.bagItems = { c with items := rest }.bagItems ∧
      c.depositItems = i :: { c with items := rest }.depositItems := by
  simp [Consignment.bagItems, Consignment.depositItems, items, deposit]

end

/-- Settles O32: each command's owner by the consignment's state and its refusals in order, then the ruling replied; and
the items by their names, by the one taken out, and by their kinds. -/
theorem consignmentsAreBuiltAndUnloaded : Obligations.ConsignmentsAreBuiltAndUnloaded := by
  refine ⟨⟨⟨
    fun s c room => ⟨fun k head reads => ?ready, fun q head reads other => ?loadBadState,
      fun q head reads other => ?addBadState⟩,
    fun s c room => ⟨fun d k head reads free lowest => ?created,
      fun q head reads building space on fresh pos moves => ?loaded,
      fun q d head reads building space used awaits => ?added⟩,
    fun s c room => ⟨fun q l n src a head reads unloads found bag pos moves => ?removedBag,
      fun q l i d head reads unloads found item used => ?removedDeposit, fun k head reads => ?cancel⟩⟩,
    fun s c room => ⟨fun d head reads used => ?createFull, fun q head reads building => ?loadRefused,
      fun q head reads building => ?addRefused, fun q head reads => ?removeRefused,
      fun k head reads => ?cancelRefused⟩,
    fun n m src a i j => ⟨?nameBag, ?nameDeposit, rfl, rfl⟩,
    fun c before after l split first => Consignment.without_eq split first⟩,
    fun c => ⟨Consignment.items_nil, fun l rest items =>
      ⟨fun n src a => Consignment.items_bag items, fun i => Consignment.items_deposit items⟩⟩⟩
  case ready =>
    rw [exec_consignReady room head reads]
    refine ⟨fun building items => ?_, fun bad => ?_⟩
    · rw [consignReady_ok building items]; rfl
    · rw [consignReady_badState bad]; rfl
  case loadBadState => rw [exec_consignLoad room head reads, consignLoad_badState other]; rfl
  case addBadState => rw [exec_consignAdd room head reads, consignAdd_badState other]; rfl
  case created => rw [exec_consignCreate room head reads, consignCreate_ok free lowest]; rfl
  case loaded => rw [exec_consignLoad room head reads, consignLoad_ok building space on fresh moves]; rfl
  case added =>
    rw [exec_consignAdd room head reads, consignAdd_claimed building space (Books.claim_ok _ _ used awaits)]
    rfl
  case removedBag => rw [exec_consignRemove room head reads, consignRemove_bag unloads found bag moves]; rfl
  case removedDeposit => rw [exec_consignRemove room head reads, consignRemove_deposit unloads found item used]; rfl
  case cancel =>
    rw [exec_consignCancel room head reads]
    refine ⟨fun atDock => ?_, fun unloads pos moves => ?_⟩
    · rw [consignCancel_atDock atDock]; rfl
    · rw [consignCancel_ok unloads moves]; rfl
  case createFull => rw [exec_consignCreate room head reads, consignCreate_full used]; rfl
  case loadRefused =>
    rw [exec_consignLoad room head reads]
    refine ⟨fun full => ?_, fun space => ⟨fun off => ?_, fun on => ⟨fun inUse => ?_, fun fresh r refuses => ?_⟩⟩⟩
    · rw [consignLoad_full building full]; rfl
    · rw [consignLoad_currencyDisabled building space off]; rfl
    · rw [consignLoad_duplicate building space on inUse]; rfl
    · rw [consignLoad_refused building space on fresh refuses]; rfl
  case addRefused =>
    rw [exec_consignAdd room head reads]
    refine ⟨fun full => ?_, fun space => ⟨fun empty => ?_, fun d used => ⟨fun closed => ?_, fun other live => ?_⟩⟩⟩
    · rw [consignAdd_full building full]; rfl
    · rw [consignAdd_unclaimed building space (Books.claim_empty _ _ _ empty)]; rfl
    · rw [consignAdd_unclaimed building space (Books.claim_closed _ _ used closed (by decide))]; rfl
    · rw [consignAdd_unclaimed building space (Books.claim_otherLive _ _ used other live)]; rfl
  case removeRefused =>
    rw [exec_consignRemove room head reads]
    refine ⟨fun building ready => ?_, fun unloads => ⟨fun n named absent => ?_, fun i named absent => ?_,
      fun l n src a r found bag refuses => ?_⟩⟩
    · rw [consignRemove_badState building ready]; rfl
    · rw [consignRemove_unknownNumber unloads named absent]; rfl
    · rw [consignRemove_unknownDeposit unloads named absent]; rfl
    · rw [consignRemove_refused unloads found bag refuses]; rfl
  case cancelRefused =>
    rw [exec_consignCancel room head reads]
    refine ⟨fun free => ?_, fun unloads r refuses => ?_⟩
    · rw [consignCancel_badState free]; rfl
    · rw [consignCancel_refused unloads refuses]; rfl
  case nameBag => simp [ItemName.names]
  case nameDeposit => simp [ItemName.names]

end Sys2Proof.Machine

/-! ## Fault reports and FAULT_CLEAR -/

namespace Sys2Proof.Machine
open Sys2Proof

/-- R191: a notice source touches the notice classes and the ports alone. -/
theorem State.setSource_frame (s : State) (c : Source) :
    s.setSource c = { s with notices := (s.setSource c).notices, links := (s.setSource c).links } := by
  unfold State.setSource State.offerNotice
  dsimp only
  split
  · rfl
  · split
    · split <;> rfl
    · rfl

theorem State.setSources_frame (s : State) (cs : List Source) :
    s.setSources cs = { s with notices := (s.setSources cs).notices, links := (s.setSources cs).links } := by
  unfold State.setSources
  induction cs generalizing s with
  | nil => rfl
  | cons c cs ih =>
    rw [List.foldl_cons, ih, s.setSource_frame c]

/-- R172, R173: the recorder after a report. -/
theorem State.report_recorder (s : State) (a : Byte) (g : PortId) (k : Byte) (e : Reason) :
    (s.report a g k e).recorder = (s.recorder.take a g k e s.clock.tod).1 :=
  congrArg State.recorder (State.setSources_frame _ _)

theorem State.report_mgmt (s : State) (a : Byte) (g : PortId) (k : Byte) (e : Reason) :
    (s.report a g k e).mgmt = s.mgmt := by
  unfold State.report
  dsimp only
  rw [State.setSources_frame]

/-- R173: FAULT of a segment. -/
theorem State.faultFlag_iff (s : State) (i : Fin 4) :
    s.faultFlag i = true ↔ ∃ j f, s.recorder.records.get j = some f ∧ f.segment = .s i := by
  rw [State.faultFlag, Tab.rows_any_iff]
  simp [Option.any_eq_true]

/-! ### A report's three cases -/

section
variable {r : Recorder} {a : Byte} {i : Fin 8}

/-- No set record names the station. -/
def Recorder.Unnamed (r : Recorder) (a : Byte) : Prop := ∀ i f, r.records.get i = some f → f.station ≠ a

theorem Recorder.naming_none (unnamed : r.Unnamed a) : r.naming a = none :=
  Tab.firstIx_eq_none fun i => by
    cases set : r.records.get i with
    | none => rfl
    | some f => simpa using unnamed i f set

theorem Recorder.naming_some {f : FaultRecord} (one : r.OneEach) (set : r.records.get i = some f)
    (named : f.station = a) : r.naming a = some i := by
  refine Tab.firstIx_eq_some (by simp [set, named]) fun j below => ?_
  cases other : r.records.get j with
  | none => rfl
  | some g =>
    have apart : g.station ≠ a := fun same => Fin.ne_of_lt below (one j i g f other set (same.trans named.symm))
    simpa using apart

/-- The recorder with every record clear counts none (R171). -/
theorem Recorder.setCount_zero_iff (r : Recorder) : r.setCount = 0 ↔ ∀ j, r.records.get j = none := by
  simp [Recorder.setCount, Tab.count_eq]

variable (g : PortId) (k : Byte) (e : Reason) (tod : Nat)

theorem Recorder.take_collapses {f : FaultRecord} (one : r.OneEach) (set : r.records.get i = some f)
    (named : f.station = a) : r.take a g k e tod =
      ({ r with records := r.records.set i (some { f with collapse := min (f.collapse + 1) 255 }) }, []) := by
  simp [Recorder.take, Recorder.naming_some one set named, set]

theorem Recorder.take_records (unnamed : r.Unnamed a) (lowest : r.records.firstIx (fun f => f.isNone) = some i) :
    r.take a g k e tod = ({ r with
      records := r.records.set i (some ⟨a, g, k, e, tod, 0⟩)
      first := if ∀ j, r.records.get j = none then some i else r.first }, [.newFault]) := by
  simp [Recorder.take, Recorder.naming_none unnamed, lowest, Recorder.setCount_zero_iff]

theorem Recorder.take_overflows (unnamed : r.Unnamed a) (full : r.records.firstIx (fun f => f.isNone) = none) :
    r.take a g k e tod = ({ r with overflow := true }, if r.overflow then [] else [.overflow]) := by
  simp [Recorder.take, Recorder.naming_none unnamed, full]

/-- A record written keeps the law when no other set record names its station (R173). -/
theorem Recorder.OneEach.set {t : Recorder} {f : FaultRecord} (one : r.OneEach)
    (written : t.records = r.records.set i (some f))
    (only : ∀ j h, r.records.get j = some h → h.station = f.station → j = i) : t.OneEach := by
  intro j l h m atJ atL same
  rw [written, Tab.get_set] at atJ atL
  split at atJ <;> split at atL
  · rw [‹j = i›, ‹l = i›]
  · obtain rfl := Option.some.inj atJ
    exact absurd (only l m atL same.symm) ‹_›
  · obtain rfl := Option.some.inj atL
    exact absurd (only j h atJ same) ‹_›
  · exact one j l h m atJ atL same

/-- R173: at most one set record names a station, after each of a report's three cases. -/
theorem Recorder.take_oneEach (one : r.OneEach) : (r.take a g k e tod).1.OneEach := by
  by_cases unnamed : r.Unnamed a
  · cases free : r.records.firstIx (fun f => f.isNone) with
    | some i =>
      rw [Recorder.take_records g k e tod unnamed free]
      exact one.set rfl fun j h set named => absurd named (unnamed j h set)
    | none =>
      rw [Recorder.take_overflows g k e tod unnamed free]
      exact one
  · obtain ⟨i, f, set, named⟩ : ∃ i f, r.records.get i = some f ∧ f.station = a := by
      simpa [Recorder.Unnamed] using unnamed
    rw [Recorder.take_collapses g k e tod one set named]
    exact one.set rfl fun j h other same => one j i h f other set same

end

section
variable {s : State} {a : Byte} (g : PortId) (k : Byte) (e : Reason)

theorem State.report_collapses {i : Fin 8} {f : FaultRecord} (one : s.recorder.OneEach)
    (set : s.recorder.records.get i = some f) (named : f.station = a) :
    s.report a g k e = { s with recorder := { s.recorder with
      records := s.recorder.records.set i (some { f with collapse := min (f.collapse + 1) 255 }) } } := by
  simp only [State.report, Recorder.take_collapses g k e _ one set named]
  rfl

theorem State.report_records {i : Fin 8} (unnamed : s.recorder.Unnamed a) (free : s.recorder.records.get i = none)
    (lowest : ∀ j, j < i → s.recorder.records.get j ≠ none) :
    s.report a g k e = ({ s with recorder := { s.recorder with
      records := s.recorder.records.set i (some ⟨a, g, k, e, s.clock.tod, 0⟩)
      first := if ∀ j, s.recorder.records.get j = none then some i else s.recorder.first } } : State).setSource
        .newFault := by
  simp only [State.report, Recorder.take_records g k e _ unnamed (firstIx_free free lowest)]
  rfl

theorem State.report_overflows (unnamed : s.recorder.Unnamed a) (full : ∀ i, s.recorder.records.get i ≠ none) :
    s.report a g k e = (if s.recorder.overflow = true then s
      else ({ s with recorder := { s.recorder with overflow := true } } : State).setSource .overflow) := by
  have nothing : s.recorder.records.firstIx (fun f => f.isNone) = none :=
    Tab.firstIx_eq_none fun i => by simpa [Option.isSome_iff_ne_none] using full i
  simp only [State.report, Recorder.take_overflows g k e _ unnamed nothing]
  split
  case isTrue set =>
    have same : ({ s.recorder with overflow := true } : Recorder) = s.recorder := by rw [← set]
    rw [same]
    rfl
  case isFalse => rfl

end

/-! ### FAULT_CLEAR -/

theorem Recorder.clear_get (r : Recorder) (q : FaultClear) (i : Fin 8) :
    (r.clear q).records.get i = if q.records.getLsbD i.val = true then none else r.records.get i := by
  simp [Recorder.clear]

theorem Recorder.setCount_eq (r : Recorder) :
    r.setCount = ((List.finRange 8).filter fun i => (r.records.get i).isSome).length := r.records.count_eq _

/-- The records that a FAULT_CLEAR clears are the set ones it names (R175). -/
theorem Recorder.setCount_clear (r : Recorder) (q : FaultClear) : r.setCount - (r.clear q).setCount =
    ((List.finRange 8).filter fun i => q.records.getLsbD i.val && (r.records.get i).isSome).length := by
  have kept (i : Fin 8) : ((r.clear q).records.get i).isSome =
      (!q.records.getLsbD i.val && (r.records.get i).isSome) := by
    rw [Recorder.clear_get]
    cases q.records.getLsbD i.val <;> rfl
  have parts : r.setCount =
      ((List.finRange 8).filter fun i => q.records.getLsbD i.val && (r.records.get i).isSome).length +
        (r.clear q).setCount := by
    simp only [Recorder.setCount_eq, kept, ← List.countP_eq_length_filter]
    rw [List.countP_eq_countP_filter_add _ _ fun i : Fin 8 => q.records.getLsbD i.val]
    simp [List.countP_filter, Bool.and_comm]
  omega

theorem exec_faultClear {s : State} {c : Command} {q : FaultClear} (head : s.AtHead c 0x14)
    (reads : readFaultClear c.params = some q) (room : s.ReplyRoom) :
    exec .faultClear s = .next (({ s with recorder := s.recorder.clear q } : State).completed c none
      (twoBytes (s.recorder.setCount - (s.recorder.clear q).setCount) ++ flagByte s.recorder.overflow ++
        twoBytes (s.recorder.clear q).setCount)) := by
  have acted : exec .faultClear s = .next (queued 0x14 readFaultClear faultClear s) := rfl
  rw [acted, queued_head head reads]
  exact congrArg _ (State.replyTo_room (s := { s with recorder := s.recorder.clear q }) room c none _)

/-- Settles O48: a report by its three cases, and FAULT_CLEAR with the recorder cleared as its witness. -/
theorem faultReportsAndClearing : Obligations.FaultReportsAndClearing := by
  refine ⟨fun s a g k e one => ⟨?lawful, fun i f => State.report_collapses g k e one, fun unnamed =>
    ⟨fun i => State.report_records g k e unnamed, State.report_overflows g k e unnamed⟩, s.faultFlag_iff⟩,
    fun s c q head reads room => ⟨s.recorder.clear q, s.recorder.clear_get q, rfl, rfl, ?clears⟩⟩
  case lawful =>
    rw [State.report_recorder]
    exact Recorder.take_oneEach g k e _ one
  case clears =>
    rw [exec_faultClear head reads room, Recorder.setCount_clear, Recorder.setCount_eq]

end Sys2Proof.Machine

/-! ## ANNOUNCE, READY and the admission timer -/

namespace Sys2Proof.Machine
open Sys2Proof

theorem exec_announce (p : Fin 4) (b : FrameBody) (s : State) :
    exec (.announce p b) s = .next (stationFrame (.owned .announce) readNothing announce p b s) := rfl

theorem exec_ready (p : Fin 4) (b : FrameBody) (s : State) :
    exec (.ready p b) s = .next (stationFrame (.owned .ready) readNothing ready p b s) := rfl

/-- A frame's owner sees the port that received it (R165). -/
theorem State.Received.port {s : State} {c : KindClass} {p : Fin 4} {b : FrameBody} {x : Ctx}
    (received : s.Received c p b x) : x.port = p := by
  obtain ⟨h, -, -, -, rfl⟩ := received
  rfl

/-- R163: a heard ANNOUNCE or READY without a payload is its owner's to rule on, admitted or not. -/
theorem stationFrame_joining {k : OwnedKind} {own : Ctx → Unit → State → Ruling State} {p : Fin 4} {b : FrameBody}
    {s : State} {x : Ctx} (heard : s.Heard k p b x) (joins : k = .announce ∨ k = .ready)
    (role : x.entry.role ≠ .none) (empty : b.payload = []) :
    stationFrame (.owned k) readNothing own p b s = settle x (own x () s) := by
  have may : x.entry.role.maySend k = true := by
    rcases joins with rfl | rfl <;> simpa [Role.maySend] using role
  exact stationFrame_passed heard.1 (classify_heard heard may) (readNothing_nil empty)

section
variable {x : Ctx} {s : State}

theorem ready_welcomed {q : Fin 4} {k : Nat} (welcomed : s.admission.get x.src.toFin = .welcomed q k) :
    ready x () s = .accept { next := s.setAdmission x.src (.admitted q) } := by
  simp [ready, welcomed]

theorem ready_badState (other : ∀ q k, s.admission.get x.src.toFin ≠ .welcomed q k) :
    ready x () s = .no .badState s := by
  unfold ready
  split
  · exact absurd ‹_› (other _ _)
  · rfl

end

section
variable {a : Byte} {s : State} {q : Fin 4}

theorem exec_admissionTimerExpiry_due (welcomed : s.admission.get a.toFin = .welcomed q 0) :
    exec (.admissionTimerExpiry a) s = .next ((s.setAdmission a (.failed q)).setSource .admissionFailed) := by
  simp [exec, execAdmissionTimerExpiry, welcomed]

theorem exec_admissionTimerExpiry_running {k : Nat} (welcomed : s.admission.get a.toFin = .welcomed q k)
    (running : k ≠ 0) : exec (.admissionTimerExpiry a) s = .next s := by
  obtain ⟨n, rfl⟩ := Nat.exists_eq_succ_of_ne_zero running
  simp [exec, execAdmissionTimerExpiry, welcomed]

end

/-- Settles O47: each joining frame by its owner's ruling, the expiry by its timer. -/
theorem stationsJoin : Obligations.StationsJoin := by
  refine fun s p b x empty role => ⟨fun heard => ?welcomes, fun heard => ⟨fun q k welcomed => ?admits,
    fun other => ?refuses⟩, fun a q k welcomed => ⟨fun down => ?fails, ?runs⟩⟩
  case welcomes =>
    rw [exec_announce, stationFrame_joining heard (.inl rfl) role empty, announce, settle_accept, heard.1.port]
    rfl
  case admits =>
    rw [exec_ready, stationFrame_joining heard (.inr rfl) role empty, ready_welcomed welcomed, settle_accept]
    rfl
  case refuses =>
    rw [exec_ready, stationFrame_joining heard (.inr rfl) role empty, ready_badState other, Ruling.no, settle_refuse]
  case fails =>
    subst down
    exact exec_admissionTimerExpiry_due welcomed
  case runs => exact exec_admissionTimerExpiry_running welcomed

end Sys2Proof.Machine

/-! ## Frames that the Classifier refuses -/

namespace Sys2Proof.Machine
open Sys2Proof

/-! ### Kinds and roles (section 8.6, R162) -/

theorem kindClass_owned_iff (b : Byte) (k : OwnedKind) : kindClass b = .owned k ↔ b = k.code := by
  constructor
  · unfold kindClass
    split
    · rintro ⟨rfl⟩
      have found : (k.code == b) = true := List.find?_some (p := fun k => OwnedKind.code k == b) ‹_›
      exact (beq_iff_eq.mp found).symm
    · split <;> exact fun other => nomatch other
  · rintro rfl
    cases k <;> rfl

theorem kindClass_outbound_iff (b : Byte) : kindClass b = .outbound ↔ 0xF0 ≤ b.toNat ∧ b.toNat ≤ 0xF4 := by
  constructor
  · unfold kindClass
    split
    · exact fun owned => nomatch owned
    · split
      · intro
        have listed : b ∈ [kindAnswer, kindPickupCall, kindCloseCall, kindNotice, kindReply] :=
          List.contains_iff_mem.mp ‹_›
        simp only [List.mem_cons, List.not_mem_nil, or_false] at listed
        rcases listed with rfl | rfl | rfl | rfl | rfl <;> decide
      · exact fun pass => nomatch pass
  · rintro ⟨low, high⟩
    have code : b.toNat = 0xF0 ∨ b.toNat = 0xF1 ∨ b.toNat = 0xF2 ∨ b.toNat = 0xF3 ∨ b.toNat = 0xF4 := by omega
    have named : b = 0xF0 ∨ b = 0xF1 ∨ b = 0xF2 ∨ b = 0xF3 ∨ b = 0xF4 := by simpa [← BitVec.toNat_inj] using code
    rcases named with rfl | rfl | rfl | rfl | rfl <;> rfl

/-- R162: the groups of kinds by their codes, and the role each asks for. -/
theorem Role.maySend_iff (r : Role) (k : OwnedKind) : r.maySend k = true ↔
    ((k.code = 0x01 ∨ k.code = 0x02) ∧ r ≠ .none) ∨
    (0x10 ≤ k.code.toNat ∧ k.code.toNat ≤ 0x14 ∧ ∃ t cls, r = .till t cls) ∨
    (0x20 ≤ k.code.toNat ∧ k.code.toNat ≤ 0x23 ∧ ∃ i, r = .safe i) ∨
    ((k.code = 0x28 ∨ k.code = 0x29) ∧ r = .receiving) ∨
    (0x30 ≤ k.code.toNat ∧ k.code.toNat ≤ 0x34 ∧ ∃ l, r = .counter l) ∨
    (k.code = 0x38 ∧ r = .supervisor) ∨
    (0x40 ≤ k.code.toNat ∧ k.code.toNat ≤ 0x45 ∧ ∃ d, r = .dock d) := by
  cases k
  case announce | ready => simp [Role.maySend, OwnedKind.code]
  case tillOpen | tillTender | tillPaidout | tillPickup | tillClose => cases r <;> simp [Role.maySend, OwnedKind.code]
  case dropRequest | dropDone | dropCancel | bagOut => cases r <;> simp [Role.maySend, OwnedKind.code]
  case bagIn | pouchIn => simp [Role.maySend, OwnedKind.code]
  case countOpen | countData | countRecount | countAbort | countClose => cases r <;> simp [Role.maySend, OwnedKind.code]
  case release => simp [Role.maySend, OwnedKind.code]
  case arriveBeacon | departBeacon | custodyPresent | itemOut | itemIn | handoverEnd =>
    cases r <;> simp [Role.maySend, OwnedKind.code]

theorem KindClass.joining_iff (c : KindClass) : c.joining = true ↔ c = .owned .announce ∨ c = .owned .ready := by
  unfold KindClass.joining
  split <;> simp_all

theorem State.admitted_iff (s : State) (a : Byte) :
    s.admitted a = true ↔ ∃ p, s.admission.get a.toFin = .admitted p := by
  unfold State.admitted
  split <;> simp_all

/-! ### The checks in order (R163) -/

section
variable {s : State} {x : Ctx} {c : KindClass}

theorem classify_address (bad : x.src = 0 ∨ x.src = 255) : classify s x c = some .malformed := if_pos bad

variable (zero : x.src ≠ 0) (high : x.src ≠ 255)
include zero high

theorem classify_unknown (role : x.entry.role = .none) : classify s x c = some .unknownStation := by
  rw [classify, if_neg (not_or.mpr ⟨zero, high⟩), if_pos role]

variable (role : x.entry.role ≠ .none)
include role

theorem classify_segment (segment : x.entry.segment ≠ x.port) : classify s x c = some .wrongSegment := by
  rw [classify, if_neg (not_or.mpr ⟨zero, high⟩), if_neg role, if_pos segment]

variable (segment : x.entry.segment = x.port)
include segment

theorem classify_admission (joins : ¬ (c = .owned .announce ∨ c = .owned .ready)) (out : s.admitted x.src = false) :
    classify s x c = some .notAdmitted := by
  rw [← KindClass.joining_iff] at joins
  rw [classify, if_neg (not_or.mpr ⟨zero, high⟩), if_neg role, if_neg (fun apart => apart segment),
    if_pos (by simp [joins, out])]

variable (joined : c = .owned .announce ∨ c = .owned .ready ∨ s.admitted x.src = true)
include joined

theorem classify_kind : classify s x c = if x.entry.maySend c then none else some .kindNotPermitted := by
  rw [← or_assoc, ← KindClass.joining_iff] at joined
  have admitted : ¬ (!c.joining ∧ !s.admitted x.src) := by
    rcases joined with joins | entered
    · simp [joins]
    · simp [entered]
  rw [classify, if_neg (not_or.mpr ⟨zero, high⟩), if_neg role, if_neg (fun apart => apart segment), if_neg admitted]
  cases x.entry.maySend c <;> rfl

end

/-- R162: what a station may not send. -/
theorem Station.maySend_false {e : Station} {c : KindClass}
    (forbidden : c = .outbound ∨ (c = .pass ∧ e.pass = false) ∨ ∃ k, c = .owned k ∧ e.role.maySend k = false) :
    e.maySend c = false := by
  obtain rfl | ⟨rfl, off⟩ | ⟨k, rfl, off⟩ := forbidden <;> simp_all [Station.maySend]

/-! ### Every row of a frame goes through the Classifier -/

theorem readNothing_isSome (bs : List Byte) : (readNothing bs).isSome = bs.isEmpty := by
  cases bs <;> rfl

/-- Each owned kind's row is a station frame whose payload reads as its layout says (R163, step 6). -/
theorem exec_stationRow {i : Instr} {k : OwnedKind} {p : Fin 4} {b : FrameBody} (row : stationRow i = some (k, p, b)) :
    ∃ (α : Type) (parse : List Byte → Option α) (own : Ctx → α → State → Ruling State),
      (∀ bs, (parse bs).isSome = k.payloadReads bs) ∧
      ∀ s, exec i s = .next (stationFrame (.owned k) parse own p b s) := by
  unfold stationRow at row
  split at row <;> cases row
  -- ANNOUNCE, READY, COUNT_RECOUNT, COUNT_ABORT, COUNT_CLOSE and HANDOVER_END have no payload.
  case h_1 | h_2 | h_16 | h_17 | h_18 | h_25 => exact ⟨_, readNothing, _, readNothing_isSome, fun _ => rfl⟩
  all_goals exact ⟨_, _, _, fun _ => rfl, fun _ => rfl⟩

theorem segmentRow_cases {i : Instr} {c : KindClass} {p : Fin 4} {b : FrameBody} (row : segmentRow i = some (c, p, b)) :
    (c = .pass ∧ i = .passFrame p b) ∨ (c = .outbound ∧ i = .outboundKindStationFrame p b) ∨
      ∃ k, c = .owned k ∧ stationRow i = some (k, p, b) := by
  unfold segmentRow at row
  split at row
  · cases row
    exact .inl ⟨rfl, rfl⟩
  · cases row
    exact .inr (.inl ⟨rfl, rfl⟩)
  · obtain ⟨⟨k, q, d⟩, found, same⟩ := Option.map_eq_some_iff.mp row
    cases same
    exact .inr (.inr ⟨k, rfl, found⟩)

/-- The state once the Classifier refuses a frame: answered, then reported (R164). -/
def State.classifierRefused (s : State) (x : Ctx) (r : Reason) : State :=
  (s.turnedAway x r 0 []).report x.src (.s x.port) x.kind r

/-- R163, step 6, and R164: a received frame that passes steps 1 to 5, and whose payload does not read. -/
theorem stationFrame_unread {α : Type} {c : KindClass} {parse : List Byte → Option α}
    {own : Ctx → α → State → Ruling State} {p : Fin 4} {b : FrameBody} {s : State} {x : Ctx}
    (received : s.Received c p b x) (clear : classify s x c = none) (unread : parse b.payload = none) :
    stationFrame c parse own p b s = s.classifierRefused x .malformed := by
  obtain ⟨h, hand, kind, ok, rfl⟩ := received
  simp [stationFrame, arrival, hand, kind, ok, clear, unread, settle_refuse, State.classifierRefused]

/-- R163, steps 1 to 5, and R164, for a PASS kind. -/
theorem exec_passFrame_refused {p : Fin 4} {b : FrameBody} {s : State} {x : Ctx} {r : Reason}
    (received : s.Received .pass p b x) (refused : classify s x .pass = some r) :
    exec (.passFrame p b) s = .next (s.classifierRefused x r) := by
  obtain ⟨h, hand, kind, ok, rfl⟩ := received
  simp [exec, execPassFrame, arrival, hand, kind, ok, refused, settle_refuse, State.classifierRefused]

section
variable {i : Instr} {c : KindClass} {p : Fin 4} {b : FrameBody} {s : State} {x : Ctx}

/-- R163, steps 1 to 5, and R164, for a row of any class. -/
theorem exec_classified {r : Reason} (row : segmentRow i = some (c, p, b)) (received : s.Received c p b x)
    (refused : classify s x c = some r) : exec i s = .next (s.classifierRefused x r) := by
  obtain ⟨rfl, rfl⟩ | ⟨rfl, rfl⟩ | ⟨k, rfl, owned⟩ := segmentRow_cases row
  · exact exec_passFrame_refused received refused
  · exact congrArg _ (stationFrame_refused received refused)
  · obtain ⟨α, parse, own, -, runs⟩ := exec_stationRow owned
    rw [runs, stationFrame_refused received refused]
    rfl

/-- R163, step 6, and R164: the payload of an owned kind does not read. -/
theorem exec_unread {k : OwnedKind} (row : segmentRow i = some (.owned k, p, b)) (received : s.Received (.owned k) p b x)
    (clear : classify s x (.owned k) = none) (unread : k.payloadReads b.payload = false) :
    exec i s = .next (s.classifierRefused x .malformed) := by
  obtain ⟨⟨⟩, -⟩ | ⟨⟨⟩, -⟩ | ⟨k, ⟨rfl⟩, owned⟩ := segmentRow_cases row
  obtain ⟨α, parse, own, reads, runs⟩ := exec_stationRow owned
  rw [← reads, Option.isSome_eq_false_iff, Option.isNone_iff_eq_none] at unread
  rw [runs, stationFrame_unread received clear unread]

end

/-- A frame refused by the Classifier changes no record, table or position (R164). -/
theorem State.classifierRefused_frame (s : State) (x : Ctx) (r : Reason) :
    (s.classifierRefused x r).books = s.books ∧ (s.classifierRefused x r).store = s.store ∧
    (s.classifierRefused x r).admission = s.admission ∧ (s.classifierRefused x r).clock = s.clock ∧
    (s.classifierRefused x r).mgmt = s.mgmt := by
  have same := (s.turnedAway x r 0 []).report_same x.src (.s x.port) x.kind r
  exact ⟨same.books, same.store, same.admission, same.clock, State.report_mgmt _ _ _ _ _⟩

/-- Settles O43: the first check that fails names the reason, and the frame is then refused in one way. -/
theorem refusedFrameChangesNoRecord : Obligations.RefusedFrameChangesNoRecord := by
  refine ⟨fun s i c p b x r row received fails => ?refused, State.admitted_iff, Role.maySend_iff,
    fun b k => ⟨kindClass_owned_iff b k, kindClass_outbound_iff b⟩⟩
  have port := received.port
  have runs : exec i s = .next (s.classifierRefused x r) := by
    obtain ⟨bad, rfl⟩ | ⟨zero, high, ⟨role, rfl⟩ | ⟨role, ⟨segment, rfl⟩ | ⟨segment, fails⟩⟩⟩ := fails
    · exact exec_classified row received (classify_address bad)
    · exact exec_classified row received (classify_unknown zero high role)
    · exact exec_classified row received (classify_segment zero high role (port ▸ segment))
    have segment := segment.trans port.symm
    obtain ⟨announces, readies, out, rfl⟩ | ⟨joined, ⟨forbidden, rfl⟩ | ⟨k, rfl, may, unread, rfl⟩⟩ := fails
    · exact exec_classified row received
        (classify_admission zero high role segment (not_or.mpr ⟨announces, readies⟩) out)
    · refine exec_classified row received ?_
      rw [classify_kind zero high role segment joined, Station.maySend_false forbidden]
      rfl
    · refine exec_unread row received ?_ unread
      rw [classify_kind zero high role segment joined]
      exact if_pos may
  rw [← port]
  exact ⟨_, runs, rfl, s.classifierRefused_frame x r⟩

end Sys2Proof.Machine

/-! ## TABLE_WRITE and TABLE_READ -/

namespace Sys2Proof.Machine
open Sys2Proof

theorem TableStore.setBank_bank (t : TableStore) (b : Fin 2) (T : Tables) : (t.setBank b T).bank b = T := by
  match b with | 0 => rfl | 1 => rfl

theorem TableStore.setBank_otherBank (t : TableStore) {a b : Fin 2} (T : Tables) (other : a ≠ b) :
    (t.setBank b T).bank a = t.bank a := by
  match a, b, other with
  | 0, 0, other => exact absurd rfl other
  | 0, 1, _ => rfl
  | 1, 0, _ => rfl
  | 1, 1, other => exact absurd rfl other

@[simp] theorem TableStore.setBank_active (t : TableStore) (b : Fin 2) (T : Tables) :
    (t.setBank b T).active = t.active := by
  match b with | 0 => rfl | 1 => rfl

@[simp] theorem TableStore.setBank_activation (t : TableStore) (b : Fin 2) (T : Tables) :
    (t.setBank b T).activation = t.activation := by
  match b with | 0 => rfl | 1 => rfl

/-- R177: of the two banks one is ACTIVE and the other STAGED. -/
theorem TableStore.active_ne_staged (t : TableStore) : t.active ≠ t.staged := by
  unfold TableStore.staged
  split <;> simp [*]

theorem EntryRange.beyond_iff (r : EntryRange) : r.beyond = true ↔ ∃ i ∈ r.indices, r.table.entries ≤ i := by
  simp only [EntryRange.beyond, List.any_eq_true, decide_eq_true_iff]

/-- A range all of whose indices are within its table names nothing beyond it. -/
theorem EntryRange.not_beyond {r : EntryRange} (within : ∀ i ∈ r.indices, i < r.table.entries) :
    ¬ r.beyond = true := fun beyond =>
  have ⟨i, named, high⟩ := r.beyond_iff.mp beyond
  Nat.not_le_of_lt (within i named) high

section
variable {s : State} {q : TableWrite}

theorem tableWrite_pending (pending : s.store.activation ≠ none) : tableWrite q s = .error .activationPending :=
  if_pos (Option.isSome_iff_ne_none.mpr pending)

theorem tableWrite_range (idle : s.store.activation = none)
    (bad : q.range.beyond ∨ (q.range.table = .rate ∧ 0 ∈ q.range.indices)) :
    tableWrite q s = .error .tableRange := by
  unfold tableWrite
  rw [if_neg (by simp [idle]), if_pos bad]

theorem tableWrite_ok {T : Tables} {n : Nat} (idle : s.store.activation = none)
    (fits : ¬ (q.range.beyond ∨ (q.range.table = .rate ∧ 0 ∈ q.range.indices)))
    (written : writeEntries q.range.table q.range.indices q.content (s.store.bank s.store.staged) = (T, n)) :
    tableWrite q s =
      .ok ({ s with store := s.store.setBank s.store.staged T }, twoBytes q.range.count ++ twoBytes n) := by
  unfold tableWrite
  rw [if_neg (by simp [idle]), if_neg fits]
  simp only [written]

end

section
variable {s : State} {c : Command}

theorem exec_tableWrite_refused {q : TableWrite} {r : Reason} (head : s.AtHead c 0x16)
    (reads : readTableWrite c.params = some q) (room : s.ReplyRoom) (refuses : tableWrite q s = .error r) :
    exec .tableWrite s = .next (s.completed c (some r) []) := by
  have acted : exec .tableWrite s = .next (queued 0x16 readTableWrite tableWrite s) := rfl
  rw [acted, queued_head head reads]
  simp only [refuses, State.replyTo_room room]

/-- A TABLE_WRITE that is accepted changes the Table Store alone (R180). -/
theorem exec_tableWrite_accepted {q : TableWrite} {store : TableStore} {result : List Byte} (head : s.AtHead c 0x16)
    (reads : readTableWrite c.params = some q) (room : s.ReplyRoom)
    (accepts : tableWrite q s = .ok ({ s with store := store }, result)) :
    exec .tableWrite s = .next (({ s with store := store } : State).completed c none result) := by
  have acted : exec .tableWrite s = .next (queued 0x16 readTableWrite tableWrite s) := rfl
  have roomLeft : ({ s with store := store } : State).ReplyRoom := room
  rw [acted, queued_head head reads]
  simp only [accepts, State.replyTo_room roomLeft]

theorem exec_tableRead_refused {q : TableRead} {r : Reason} (head : s.AtHead c 0x17)
    (reads : readTableRead c.params = some q) (room : s.ReplyRoom) (refuses : tableRead q s = .error r) :
    exec .tableRead s = .next (s.completed c (some r) []) := by
  have acted : exec .tableRead s = .next (queuedRead 0x17 readTableRead tableRead s) := rfl
  rw [acted, queuedRead, queued_head head reads]
  simp only [refuses, State.replyTo_room room]

theorem exec_tableRead_accepted {q : TableRead} {result : List Byte} (head : s.AtHead c 0x17)
    (reads : readTableRead c.params = some q) (room : s.ReplyRoom) (accepts : tableRead q s = .ok result) :
    exec .tableRead s = .next (s.completed c none result) :=
  congrArg _ (queuedRead_accepted head reads room accepts)

end

/-- Settles O51: the refusals in R180's order, then the STAGED bank written and the ACTIVE bank left; a read of either
bank. -/
theorem tableCommands : Obligations.TableCommands := by
  refine fun s c room => ⟨fun q head reads => ⟨fun pending => ?pending, fun idle => ⟨fun bad => ?badRange,
    fun within soft => ?writes⟩⟩, fun q head reads => ⟨fun beyond => ?beyond, ?reads⟩⟩
  case pending => exact exec_tableWrite_refused head reads room (tableWrite_pending pending)
  case badRange =>
    rw [← q.range.beyond_iff] at bad
    exact exec_tableWrite_refused head reads room (tableWrite_range idle bad)
  case writes =>
    have fits := not_or.mpr ⟨EntryRange.not_beyond within, soft⟩
    exact ⟨_, _, exec_tableWrite_accepted head reads room (tableWrite_ok idle fits rfl), rfl,
      s.store.setBank_active _ _, (s.store.setBank_activation _ _).trans idle,
      s.store.setBank_otherBank _ s.store.active_ne_staged, Prod.ext (s.store.setBank_bank _ _) rfl⟩
  case beyond =>
    exact exec_tableRead_refused head reads room (if_pos (q.range.beyond_iff.mpr beyond))
  case reads =>
    rintro within bk rfl
    exact exec_tableRead_accepted head reads room (if_neg (EntryRange.not_beyond within))

end Sys2Proof.Machine

/-! ## ACTIVATE and the ports' changes of bank -/

namespace Sys2Proof.Machine
open Sys2Proof

/-! ### A port at a frame boundary changes its bank (R183) -/

/-- A segment port after the change: its bank is the new one where it stands at a frame boundary. -/
def SegPort.switched (b : Fin 2) (g : SegPort) : SegPort := { g with bank := if g.hand = none then b else g.bank }

/-- The uplink port after the change. -/
def UpPort.switched (b : Fin 2) (g : UpPort) : UpPort := { g with bank := if g.hand = none then b else g.bank }

theorem SegPort.switched_boundary {g : SegPort} (boundary : g.hand = none) (b : Fin 2) :
    g.switched b = { g with bank := b } := by
  simp [SegPort.switched, boundary]

theorem SegPort.switched_inFrame {g : SegPort} (inFrame : g.hand ≠ none) (b : Fin 2) : g.switched b = g := by
  simp [SegPort.switched, inFrame]

theorem SegPort.switched_same (g : SegPort) : g.switched g.bank = g := by simp [SegPort.switched]

theorem UpPort.switched_boundary {g : UpPort} (boundary : g.hand = none) (b : Fin 2) :
    g.switched b = { g with bank := b } := by
  simp [UpPort.switched, boundary]

theorem UpPort.switched_inFrame {g : UpPort} (inFrame : g.hand ≠ none) (b : Fin 2) : g.switched b = g := by
  simp [UpPort.switched, inFrame]

theorem UpPort.switched_same (g : UpPort) : g.switched g.bank = g := by simp [UpPort.switched]

/-- One port asked to change to the STAGED bank. -/
def State.portSwitched (s : State) : PortId → State
  | .u => s.setUport (UpPort.switched s.store.staged)
  | .s p => s.setSeg p (SegPort.switched s.store.staged)

/-- Every port asked. -/
def State.portsSwitched (s : State) : State :=
  { s with links := { s.links with
      segs := s.links.segs.map (SegPort.switched s.store.staged)
      uport := s.links.uport.switched s.store.staged } }

theorem State.portSwitched_store (s : State) (p : PortId) : (s.portSwitched p).store = s.store := by
  cases p <;> rfl

section
variable {s : State} {tag : BitVec 16}

theorem State.setSeg_same {p : Fin 4} {f : SegPort → SegPort} (same : f (s.links.segs.get p) = s.links.segs.get p) :
    s.setSeg p f = s := by
  rw [State.setSeg, same, Quad.set_get]

theorem State.setUport_same {f : UpPort → UpPort} (same : f s.links.uport = s.links.uport) : s.setUport f = s := by
  rw [State.setUport, same]

theorem State.switchDue_seg (pending : s.store.activation = some tag) (p : Fin 4) : s.switchDue (.s p) = true ↔
    (s.links.segs.get p).hand = none ∧ (s.links.segs.get p).bank ≠ s.store.staged := by
  simp [State.switchDue, State.atBoundary, State.portBank, pending]

theorem State.switchDue_uplink (pending : s.store.activation = some tag) : s.switchDue .u = true ↔
    s.links.uport.hand = none ∧ s.links.uport.bank ≠ s.store.staged := by
  simp [State.switchDue, State.atBoundary, State.portBank, pending]

/-- Each port is asked for itself: where its change is due it is made, elsewhere nothing happens. -/
theorem State.switchIfDue (pending : s.store.activation = some tag) (p : PortId) :
    (if s.switchDue p then s.setPortBank p s.store.staged else s) = s.portSwitched p := by
  cases p with
  | u =>
    by_cases boundary : s.links.uport.hand = none
    · by_cases changed : s.links.uport.bank = s.store.staged
      · rw [if_neg fun due => ((State.switchDue_uplink pending).mp due).2 changed, State.portSwitched,
          State.setUport_same (changed ▸ UpPort.switched_same _)]
      · rw [if_pos ((State.switchDue_uplink pending).mpr ⟨boundary, changed⟩), State.portSwitched, State.setPortBank,
          State.setUport, State.setUport, UpPort.switched_boundary boundary]
    · rw [if_neg fun due => boundary ((State.switchDue_uplink pending).mp due).1, State.portSwitched,
        State.setUport_same (UpPort.switched_inFrame boundary _)]
  | s p =>
    by_cases boundary : (s.links.segs.get p).hand = none
    · by_cases changed : (s.links.segs.get p).bank = s.store.staged
      · rw [if_neg fun due => ((State.switchDue_seg pending p).mp due).2 changed, State.portSwitched,
          State.setSeg_same (changed ▸ SegPort.switched_same _)]
      · rw [if_pos ((State.switchDue_seg pending p).mpr ⟨boundary, changed⟩), State.portSwitched, State.setPortBank,
          State.setSeg, State.setSeg, SegPort.switched_boundary boundary]
    · rw [if_neg fun due => boundary ((State.switchDue_seg pending p).mp due).1, State.portSwitched,
        State.setSeg_same (SegPort.switched_inFrame boundary _)]

theorem State.foldl_switchIfDue (ps : List PortId) : ∀ s : State, s.store.activation = some tag →
    ps.foldl (fun s p => if s.switchDue p then s.setPortBank p s.store.staged else s) s =
      ps.foldl State.portSwitched s := by
  induction ps with
  | nil => exact fun _ _ => rfl
  | cons p ps ih =>
    intro s pending
    rw [List.foldl_cons, List.foldl_cons, State.switchIfDue pending]
    exact ih _ ((congrArg _ (s.portSwitched_store p)).trans pending)

theorem State.switchAll_eq (pending : s.store.activation = some tag) :
    s.switchAll = s.portsSwitched.completeIfLast := by
  rw [State.switchAll, State.foldl_switchIfDue allPorts s pending]
  rfl

/-! ### The last change completes the activation (R184) -/

theorem State.completeIfLast_last (pending : s.store.activation = some tag)
    (uplink : s.links.uport.bank = s.store.staged) (segments : ∀ q, (s.links.segs.get q).bank = s.store.staged) :
    s.completeIfLast = s.completeActivation tag := by
  have last : (allPorts.all fun p => s.portBank p == s.store.staged) = true := by
    simp [allPorts, State.portBank, uplink, segments]
  unfold State.completeIfLast
  simp only [pending, last, if_true]

/-- While some port has not changed, no activation completes. -/
theorem State.completeIfLast_earlier {p : PortId} (behind : s.portBank p = s.store.active) : s.completeIfLast = s := by
  have listed : p ∈ allPorts := by
    cases p with
    | u => decide
    | s i => exact (by decide : ∀ i, PortId.s i ∈ allPorts) i
  have earlier : ¬ (allPorts.all fun p => s.portBank p == s.store.staged) = true := fun all =>
    s.store.active_ne_staged (behind.symm.trans (eq_of_beq (List.all_eq_true.mp all p listed)))
  unfold State.completeIfLast
  split
  · exact if_neg earlier
  · rfl

/-- The state in which the activation has completed, but for the reply: the banks exchanged, with the
admission entries as given (R184). -/
def State.activated (s : State) (M : Tab Admission 256) : State :=
  { s with
    store := ⟨s.store.bank s.store.staged, s.store.bank s.store.staged, s.store.staged, none⟩
    admission := M }

/-- R169: role, segment or unit index differ. -/
theorem Station.moved_iff (e f : Station) : e.moved f = true ↔
    e.role.code ≠ f.role.code ∨ e.segment ≠ f.segment ∨ e.role.unit ≠ f.role.unit := by
  simp [Station.moved, or_assoc]

theorem movedStations_eq {old new : Tables} {moved : Fin 256 → Bool} (moves : ∀ a, moved a = true ↔
      a ≠ 0 ∧ a ≠ 255 ∧ (old.station (BitVec.ofFin a)).moved (new.station (BitVec.ofFin a)) = true) :
    movedStations old new = (List.finRange 256).filter moved := by
  unfold movedStations
  congr 1
  funext a
  rw [Bool.eq_iff_iff, moves]
  simp [← BitVec.toFin_inj, and_assoc]

theorem State.completeActivation_eq {moved : Fin 256 → Bool} {M : Tab Admission 256}
    (moves : ∀ a, moved a = true ↔ a ≠ 0 ∧ a ≠ 255 ∧
      ((s.store.bank s.store.active).station (BitVec.ofFin a)).moved
        ((s.store.bank s.store.staged).station (BitVec.ofFin a)) = true)
    (absent : ∀ a, M.get a = if moved a = true then .absent else s.admission.get a) :
    s.completeActivation tag = (s.activated M).offerReply ⟨tag, 0x18, none,
      oneByte s.store.staged.val ++ twoBytes ((List.finRange 256).filter moved).length⟩ .activate := by
  have admission : (s.admission.mapIx fun a e =>
      if ((List.finRange 256).filter moved).contains a then .absent else e) = M := by
    refine Tab.ext_get fun a => ?_
    rw [Tab.get_mapIx, absent]
    simp
  unfold State.completeActivation State.activeTables
  simp only [movedStations_eq moves, admission]
  rfl

/-- An activation that completes sends the moved stations ABSENT and offers its reply (R184). -/
theorem State.completeActivation_offers (s : State) (tag : BitVec 16) : ∃ (M : Tab Admission 256) (r : Reply),
    s.completeActivation tag = (s.activated M).offerReply r .activate ∧
    ∀ a, M.get a = if a ≠ 0 ∧ a ≠ 255 ∧ ((s.store.bank s.store.active).station (BitVec.ofFin a)).moved
      ((s.store.bank s.store.staged).station (BitVec.ofFin a)) = true then .absent else s.admission.get a := by
  refine ⟨_, _, rfl, fun a => ?_⟩
  simp only [Tab.get_mapIx, movedStations_eq fun _ => decide_eq_true_iff, State.activeTables, List.contains_eq_mem,
    List.mem_filter, List.mem_finRange, true_and, decide_eq_true_iff]

/-- The reply of an ACTIVATE changes no port. -/
theorem State.offerReply_activate_segs (s : State) (r : Reply) :
    (s.offerReply r .activate).links.segs = s.links.segs := by
  unfold State.offerReply
  split <;> rfl

/-- The reply of an ACTIVATE is placed where there is room, and waits elsewhere (R154, R184). -/
theorem State.offerReply_activate {t : State} {bs : List Byte}
    (placed : s.ReplyRoom → t = s.said ⟨tag, 0x18, []⟩ none bs)
    (waits : ¬ s.ReplyRoom → t = { s with links := { s.links with
      waits := s.links.waits ++ [.reply ⟨tag, 0x18, none, bs⟩ .activate] } }) :
    s.offerReply ⟨tag, 0x18, none, bs⟩ .activate = t := by
  by_cases room : s.ReplyRoom
  · rw [State.offerReply_room room, placed room]
    exact s.placeReply_said ⟨tag, 0x18, []⟩ none bs
  · rw [State.offerReply_full room, waits room]
    rfl

end

/-! ### ACTIVATE -/

/-- The state once an ACTIVATE has left the head and its activation is pending (R183). -/
def State.activateTaken (s : State) (tag : BitVec 16) : State :=
  { s.popHead with store := { s.store with activation := some tag } }

theorem State.atBoundary_seg {s : State} {p : Fin 4} :
    s.atBoundary (.s p) = false ↔ (s.links.segs.get p).hand ≠ none := by
  simp [State.atBoundary, Option.isSome_iff_ne_none]

theorem State.atBoundary_uplink {s : State} : s.atBoundary .u = false ↔ s.links.uport.hand ≠ none := by
  simp [State.atBoundary, Option.isSome_iff_ne_none]

/-- A port in a frame keeps its bank. -/
theorem State.portsSwitched_inFrame {s : State} {p : PortId} (inFrame : s.atBoundary p = false) :
    s.portsSwitched.portBank p = s.portBank p := by
  cases p with
  | u => exact congrArg UpPort.bank (UpPort.switched_inFrame (State.atBoundary_uplink.mp inFrame) _)
  | s p =>
    exact congrArg SegPort.bank ((Quad.get_map ..).trans
      (SegPort.switched_inFrame (State.atBoundary_seg.mp inFrame) _))

/-- With every port at a frame boundary, all five change. -/
theorem State.portsSwitched_boundary {s : State} (uplink : s.links.uport.hand = none)
    (segments : ∀ p, (s.links.segs.get p).hand = none) : s.portsSwitched = { s with links := { s.links with
      segs := s.links.segs.map fun g => { g with bank := s.store.staged }
      uport := { s.links.uport with bank := s.store.staged } } } := by
  have segs : s.links.segs.map (SegPort.switched s.store.staged) =
      s.links.segs.map fun g => { g with bank := s.store.staged } := by
    refine Quad.ext_get fun p => ?_
    rw [Quad.get_map, Quad.get_map, SegPort.switched_boundary (segments p)]
  rw [State.portsSwitched, segs, UpPort.switched_boundary uplink]

/-- What stands at the head is fresh, so that its removal changes the queue alone (R187). -/
theorem State.AtHead.popHead {s : State} {c : Command} {code : Byte} (head : s.AtHead c code) :
    s.popHead = { s with mgmt := { s.mgmt with queue := s.mgmt.queue.drop 1 } } := by
  obtain ⟨-, -, fresh, -⟩ := head
  rw [State.popHead, ← fresh]

section
variable {s : State} {c : Command}

theorem exec_activate_refused (head : s.AtHead c 0x18) (empty : c.params = []) (pending : s.store.activation ≠ none)
    (room : s.ReplyRoom) : exec .activate s = .next (s.completed c (some .activationPending) []) := by
  simp only [exec, execActivate, head.operand (readNothing_nil empty), Option.isSome_iff_ne_none.mpr pending, if_true,
    State.replyTo_room room]

theorem exec_activate (head : s.AtHead c 0x18) (empty : c.params = []) (idle : s.store.activation = none) :
    exec .activate s = .next (s.activateTaken c.tag).portsSwitched.completeIfLast := by
  have taken : execActivate s = .next (s.activateTaken c.tag).switchAll := by
    simp only [execActivate, head.operand (readNothing_nil empty), idle, Option.isSome_none]
    rfl
  rw [← State.switchAll_eq (tag := c.tag) rfl]
  exact taken

/-- With a port of the ACTIVE bank in a frame, the activation stays pending. -/
theorem exec_activate_waits {p : PortId} (head : s.AtHead c 0x18) (empty : c.params = [])
    (idle : s.store.activation = none) (inFrame : s.atBoundary p = false) (old : s.portBank p = s.store.active) :
    exec .activate s = .next (s.activateTaken c.tag).portsSwitched := by
  have behind : (s.activateTaken c.tag).portsSwitched.portBank p = s.store.active :=
    (State.portsSwitched_inFrame (s := s.activateTaken c.tag) (by cases p <;> exact inFrame)).trans
      (by cases p <;> exact old)
  rw [exec_activate head empty idle, State.completeIfLast_earlier behind]

/-- R184: with every port at a frame boundary, the ACTIVATE completes the activation. -/
theorem exec_activate_completes (head : s.AtHead c 0x18) (empty : c.params = []) (idle : s.store.activation = none)
    (uplink : s.links.uport.hand = none) (segments : ∀ p, (s.links.segs.get p).hand = none) :
    exec .activate s = .next ((s.activateTaken c.tag).portsSwitched.completeActivation c.tag) := by
  have all := State.portsSwitched_boundary (s := s.activateTaken c.tag) uplink segments
  rw [exec_activate head empty idle, State.completeIfLast_last (tag := c.tag) rfl]
  · rw [all]
  · intro q
    rw [all]
    exact congrArg SegPort.bank (Quad.get_map ..)

end

/-! ### PORT_BANK_SWITCH -/

section
variable {s : State} {tag : BitVec 16} {p : Fin 4}

theorem exec_portBankSwitch_due {p : PortId} (due : s.switchDue p = true) :
    exec (.portBankSwitch p) s = .next (s.setPortBank p s.store.staged).completeIfLast :=
  congrArg _ (if_pos due)

theorem exec_portBankSwitch_seg (pending : s.store.activation = some tag) (boundary : (s.links.segs.get p).hand = none)
    (old : (s.links.segs.get p).bank = s.store.active) :
    exec (.portBankSwitch (.s p)) s = .next (s.setPortBank (.s p) s.store.staged).completeIfLast :=
  exec_portBankSwitch_due ((State.switchDue_seg pending p).mpr ⟨boundary, old ▸ s.store.active_ne_staged⟩)

theorem exec_portBankSwitch_uplink (pending : s.store.activation = some tag) (boundary : s.links.uport.hand = none)
    (old : s.links.uport.bank = s.store.active) :
    exec (.portBankSwitch .u) s = .next (s.setPortBank .u s.store.staged).completeIfLast :=
  exec_portBankSwitch_due ((State.switchDue_uplink pending).mpr ⟨boundary, old ▸ s.store.active_ne_staged⟩)

theorem State.setPortBank_get_other {q : Fin 4} (other : q ≠ p) (b : Fin 2) :
    (s.setPortBank (.s p) b).links.segs.get q = s.links.segs.get q := Quad.get_set_other _ _ other

theorem State.setPortBank_get_same (b : Fin 2) :
    (s.setPortBank (.s p) b).links.segs.get p = { s.links.segs.get p with bank := b } := Quad.get_set_same _ _ _

/-- R184: the last of the ports, a segment port, completes the activation. -/
theorem exec_portBankSwitch_seg_last (pending : s.store.activation = some tag)
    (boundary : (s.links.segs.get p).hand = none) (old : (s.links.segs.get p).bank = s.store.active)
    (uplink : s.links.uport.bank = s.store.staged)
    (others : ∀ q, q ≠ p → (s.links.segs.get q).bank = s.store.staged) :
    exec (.portBankSwitch (.s p)) s = .next ((s.setPortBank (.s p) s.store.staged).completeActivation tag) := by
  have segments (q : Fin 4) : ((s.setPortBank (.s p) s.store.staged).links.segs.get q).bank = s.store.staged := by
    by_cases same : q = p
    · rw [same, State.setPortBank_get_same]
    · rw [State.setPortBank_get_other same, others q same]
  rw [exec_portBankSwitch_seg pending boundary old]
  exact congrArg _ (State.completeIfLast_last (s := s.setPortBank _ _) pending uplink segments)

/-- R184: the last of the ports, U, completes the activation. -/
theorem exec_portBankSwitch_uplink_last (pending : s.store.activation = some tag)
    (boundary : s.links.uport.hand = none) (old : s.links.uport.bank = s.store.active)
    (segments : ∀ q, (s.links.segs.get q).bank = s.store.staged) :
    exec (.portBankSwitch .u) s = .next ((s.setPortBank .u s.store.staged).completeActivation tag) :=
  (exec_portBankSwitch_uplink pending boundary old).trans
    (congrArg _ (State.completeIfLast_last (s := s.setPortBank _ _) pending rfl segments))

theorem exec_portBankSwitch_seg_earlier (pending : s.store.activation = some tag)
    (boundary : (s.links.segs.get p).hand = none) (old : (s.links.segs.get p).bank = s.store.active)
    (behind : s.links.uport.bank = s.store.active ∨ ∃ q, q ≠ p ∧ (s.links.segs.get q).bank = s.store.active) :
    exec (.portBankSwitch (.s p)) s = .next (s.setPortBank (.s p) s.store.staged) := by
  rw [exec_portBankSwitch_seg pending boundary old]
  obtain uplink | ⟨q, other, segment⟩ := behind
  · exact congrArg _ (State.completeIfLast_earlier (s := s.setPortBank _ _) (p := .u) uplink)
  · exact congrArg _ (State.completeIfLast_earlier (s := s.setPortBank _ _) (p := .s q)
      ((congrArg SegPort.bank (State.setPortBank_get_other other _)).trans segment))

theorem exec_portBankSwitch_uplink_earlier (pending : s.store.activation = some tag)
    (boundary : s.links.uport.hand = none) (old : s.links.uport.bank = s.store.active)
    (behind : ∃ q, (s.links.segs.get q).bank = s.store.active) :
    exec (.portBankSwitch .u) s = .next (s.setPortBank .u s.store.staged) := by
  obtain ⟨q, segment⟩ := behind
  rw [exec_portBankSwitch_uplink pending boundary old]
  exact congrArg _ (State.completeIfLast_earlier (s := s.setPortBank _ _) (p := .s q) segment)

end

/-- Settles O53: an ACTIVATE by whether some port is in a frame, a port's change by whether it is the last; all that
complete the activation offer the same reply. -/
theorem activationSwitchesThePorts : Obligations.ActivationSwitchesThePorts := by
  refine ⟨fun s => ⟨fun c head empty => ⟨fun pending room => exec_activate_refused head empty pending room,
      fun idle p inFrame old => ?segInFrame⟩, fun tag p pending boundary old uplink others => ?segLast⟩,
    fun s c head empty idle inFrame old => ?uInFrame,
    fun s tag pending => ⟨fun p => exec_portBankSwitch_seg_earlier pending, exec_portBankSwitch_uplink_earlier pending⟩,
    fun s tag moved M done moves absent offered => ?complete⟩
  case segInFrame =>
    exact ⟨_, exec_activate_waits head empty idle (State.atBoundary_seg.mpr inFrame) old, rfl, rfl, rfl, rfl, rfl, rfl,
      fun q => congrArg SegPort.bank (Quad.get_map ..)⟩
  case uInFrame =>
    exact ⟨_, exec_activate_waits head empty idle (State.atBoundary_uplink.mpr inFrame) old, rfl, rfl, rfl, rfl, rfl,
      UpPort.switched_inFrame inFrame _, fun q => Quad.get_map ..⟩
  case segLast =>
    obtain ⟨M, r, offers, absent⟩ := (s.setPortBank (.s p) s.store.staged).completeActivation_offers tag
    rw [exec_portBankSwitch_seg_last pending boundary old uplink others, offers]
    have same := State.offerReply_same ((s.setPortBank (.s p) s.store.staged).activated M) r .activate
    refine ⟨_, rfl, ?_⟩
    rw [same.store, same.books, same.admission, State.offerReply_activate_segs]
    exact ⟨rfl, rfl, rfl, rfl, congrArg SegPort.bank (State.setPortBank_get_same _), rfl, absent⟩
  case complete =>
    have moves (a : Fin 256) := (moves a _ _ rfl rfl).trans
      (and_congr_right' (and_congr_right' (Station.moved_iff _ _).symm))
    have completes (u w : State) (store : u.store = { s.store with activation := u.store.activation })
        (entries : u.admission = s.admission) (completed : u.activated M = { w with
          store := ⟨s.store.bank s.store.staged, s.store.bank s.store.staged, s.store.staged, none⟩
          admission := M }) : u.completeActivation tag = done w := by
      have staged : u.store.staged = s.store.staged := by rw [store, TableStore.staged, TableStore.staged]
      rw [State.completeActivation_eq (by rw [store]; exact moves) (by rw [entries]; exact absent), staged]
      have reply := offered w _ completed _ rfl
      exact State.offerReply_activate reply.1 reply.2
    refine ⟨fun c head empty tagged idle uplink segments => ?atOnce, fun pending =>
      ⟨fun p boundary old uplink others => ?seg, fun boundary old segments => ?uplink⟩⟩
    case atOnce =>
      subst tagged
      refine (exec_activate_completes head empty idle uplink segments).trans (congrArg _ (completes _ _ rfl rfl ?_))
      rw [State.portsSwitched_boundary (s := s.activateTaken c.tag) uplink segments, State.activateTaken, head.popHead]
      rfl
    case seg =>
      exact (exec_portBankSwitch_seg_last pending boundary old uplink others).trans
        (congrArg _ (completes _ _ rfl rfl rfl))
    case uplink =>
      exact (exec_portBankSwitch_uplink_last pending boundary old segments).trans
        (congrArg _ (completes _ _ rfl rfl rfl))

end Sys2Proof.Machine

/-! ## Notice sources and the NOTICEs they offer -/

namespace Sys2Proof.Machine
open Sys2Proof

/-- R154: what is offered is placed at once where there is room for a reply. -/
theorem State.canPlace_iff (s : State) : s.canPlace = true ↔ s.ReplyRoom := by
  simp [State.canPlace, State.ReplyRoom]

theorem State.placeNotice_noticed (s : State) (k : Fin 8) : s.placeNotice k = s.noticed k := by
  simp only [State.placeNotice, State.noticed, oneByte_eq, NoticeClass.sourceByte, State.setNotice_notices,
    Tab.get_set_same, List.append_assoc, List.singleton_append]
  rfl

/-- A NOTICE offered with room is placed (R191). -/
theorem State.offerNotice_room {s : State} (room : s.ReplyRoom) (k : Fin 8) : s.offerNotice k = s.noticed k := by
  rw [State.offerNotice, if_pos (s.canPlace_iff.mpr room), State.placeNotice_noticed]

/-- A NOTICE offered without room waits, with its class's pending flag set (R191). -/
theorem State.offerNotice_full {s : State} (full : ¬ s.ReplyRoom) (k : Fin 8) : s.offerNotice k = s.noticeWaits k :=
  if_neg (mt s.canPlace_iff.mp full)

/-- The class's record once its source is set. -/
def NoticeClass.withSource (n : NoticeClass) (c : Source) : NoticeClass :=
  { n with sources := n.sources.set c.place true }

/-- Where no other source of its class is set, a source's place alone is set in the class's byte. -/
theorem NoticeClass.sourceByte_first {n : NoticeClass} (clear : ∀ i, n.sources.get i = false) (c : Source) :
    (n.withSource c).sourceByte = BitVec.ofNat 8 (2 ^ c.place.val) := by
  have none_set : n.sources = Quad.const false := Quad.ext_get fun i => by rw [clear i, Quad.get_const]
  rw [NoticeClass.sourceByte, NoticeClass.withSource, none_set]
  cases c <;> rfl

section
variable {s : State} {c : Source}

/-- R191: nothing more follows where a source of the class is set already. -/
theorem State.setSource_again (other : ∃ i, (s.notices.get c.cls).sources.get i = true) :
    s.setSource c = s.setNotice c.cls fun n => n.withSource c :=
  if_pos ((Quad.any_iff _ _).mpr other)

/-- R191: the first source of an enabled class offers its NOTICE. -/
theorem State.setSource_enabled (clear : ∀ i, (s.notices.get c.cls).sources.get i = false)
    (enabled : (s.notices.get c.cls).enabled = true) :
    s.setSource c = (s.setNotice c.cls fun n => n.withSource c).offerNotice c.cls := by
  have first : (s.notices.get c.cls).anySource = false := (Quad.any_false_iff _ _).mpr clear
  simp only [State.setSource, first, enabled]
  rfl

/-- R191: the first source of a disabled class sets its pending flag. -/
theorem State.setSource_disabled (clear : ∀ i, (s.notices.get c.cls).sources.get i = false)
    (disabled : (s.notices.get c.cls).enabled = false) :
    s.setSource c = s.setNotice c.cls fun n => { n.withSource c with pending := true } := by
  have first : (s.notices.get c.cls).anySource = false := (Quad.any_false_iff _ _).mpr clear
  simp only [State.setSource, first, disabled, Bool.false_eq_true, if_false, State.setNotice, Tab.get_set_same,
    Tab.set_set]
  rw [NoticeClass.withSource, disabled]

end

/-- Settles O49: by whether the class has a source set, whether it is enabled, and whether its NOTICE has room. -/
theorem sourceSetOffersANotice : Obligations.SourceSetOffersANotice := by
  intro s c
  refine ⟨State.setSource_again, fun clear => ⟨State.setSource_disabled clear, fun enabled =>
    ⟨fun room => ?placed, fun full => ?waits⟩⟩⟩
  case placed =>
    have byte := NoticeClass.sourceByte_first clear c
    rw [NoticeClass.sourceByte] at byte
    rw [State.setSource_enabled clear enabled, State.offerNotice_room (s := s.setNotice _ _) room]
    simp only [State.noticed, State.setNotice, Tab.get_set_same, Tab.set_set, byte]
    rfl
  case waits =>
    rw [State.setSource_enabled clear enabled, State.offerNotice_full (s := s.setNotice _ _) full]
    simp only [State.noticeWaits, State.setNotice, Tab.get_set_same, Tab.set_set]
    rfl

end Sys2Proof.Machine

/-! ## READ_SOURCES and NOTICE_ENABLE -/

namespace Sys2Proof.Machine
open Sys2Proof

/-- A queued command that its owner accepts: its reply is placed where there is room after it, and waits elsewhere
(R154, R187). -/
theorem queued_accepted {α : Type} {code : Byte} {parse : List Byte → Option α}
    {act : α → State → Except Reason (State × List Byte)} {s t : State} {c : Command} {a : α} {result : List Byte}
    (head : s.AtHead c code) (reads : parse c.params = some a) (accepts : act a s = .ok (t, result)) :
    (t.ReplyRoom → queued code parse act s = t.completed c none result) ∧
    (¬ t.ReplyRoom → queued code parse act s = t.replyWaits c none result) := by
  have acted : queued code parse act s = t.replyTo c none result := by
    rw [queued_head head reads, accepts]
  rw [acted]
  exact ⟨fun room => State.replyTo_room room c none result, fun full => State.replyTo_full full c none result⟩

/-- The state with its notice classes and its waiting list replaced. -/
def State.withNotices (s : State) (N : Tab NoticeClass 8) (waits : List WaitItem) : State :=
  { s with notices := N, links := { s.links with waits := waits } }

/-- A waiting entry that stays when the notices of some classes are withdrawn. -/
def WaitItem.keptWithout (ks : List (Fin 8)) : WaitItem → Bool
  | .notice k => !ks.contains k
  | .reply _ _ => true

theorem WaitItem.keptWithout_cons (k : Fin 8) (ks : List (Fin 8)) (w : WaitItem) :
    w.keptWithout (k :: ks) = (w.keptWithout ks && w != .notice k) := by
  cases w with
  | reply r c => simp [WaitItem.keptWithout]
  | notice j => by_cases same : j = k <;> simp [WaitItem.keptWithout, same]

/-- A list of classes disabled one by one (R192). -/
theorem State.foldl_disableClass (ks : List (Fin 8)) (s : State) :
    ks.foldl State.disableClass s = s.withNotices
      (s.notices.mapIx fun k n => if k ∈ ks then { n with enabled := false } else n)
      (s.links.waits.filter (WaitItem.keptWithout ks)) := by
  induction ks generalizing s with
  | nil =>
    have classes : (s.notices.mapIx fun k n => if k ∈ [] then { n with enabled := false } else n) = s.notices :=
      Tab.ext_get fun k => by simp
    have waits : s.links.waits.filter (WaitItem.keptWithout []) = s.links.waits :=
      List.filter_eq_self.mpr fun w _ => by cases w <;> rfl
    rw [classes, waits]
    rfl
  | cons j ks ih =>
    have classes : ((s.disableClass j).notices.mapIx fun k n => if k ∈ ks then { n with enabled := false } else n) =
        s.notices.mapIx fun k n => if k ∈ j :: ks then { n with enabled := false } else n := by
      refine Tab.ext_get fun k => ?_
      by_cases same : k = j <;> simp [State.disableClass, Tab.get_set, same]
    have waits : (s.disableClass j).links.waits.filter (WaitItem.keptWithout ks) =
        s.links.waits.filter (WaitItem.keptWithout (j :: ks)) := by
      rw [State.disableClass, State.setNotice_links, State.withdraw, List.filter_filter]
      exact List.filter_congr fun w _ => (w.keptWithout_cons j ks).symm
    rw [List.foldl_cons, ih, classes, waits]
    rfl

/-- A list of classes enabled one by one (R192). -/
theorem State.foldl_enableClass (ks : List (Fin 8)) (s : State) :
    ks.foldl State.enableClass s = s.withNotices
      (s.notices.mapIx fun k n => if k ∈ ks then { n with enabled := true } else n) s.links.waits := by
  induction ks generalizing s with
  | nil =>
    have classes : (s.notices.mapIx fun k n => if k ∈ [] then { n with enabled := true } else n) = s.notices :=
      Tab.ext_get fun k => by simp
    rw [classes]
    rfl
  | cons j ks ih =>
    have classes : ((s.enableClass j).notices.mapIx fun k n => if k ∈ ks then { n with enabled := true } else n) =
        s.notices.mapIx fun k n => if k ∈ j :: ks then { n with enabled := true } else n := by
      refine Tab.ext_get fun k => ?_
      by_cases same : k = j <;> simp [State.enableClass, Tab.get_set, same]
    rw [List.foldl_cons, ih, classes]
    rfl

@[simp] theorem mem_classesOf (m : BitVec 8) (k : Fin 8) : k ∈ classesOf m ↔ m.getLsbD k.val = true := by
  simp [classesOf]

/-- R192: what NOTICE_ENABLE comes to before its own reply. -/
theorem noticeEnable_ok {q : NoticeEnable} {s v : State} {N : Tab NoticeClass 8} {waits : List WaitItem}
    (classes : ∀ k, N.get k = { s.notices.get k with
      enabled := if q.enable.getLsbD k.val = true then true
        else if q.disable.getLsbD k.val = true then false else (s.notices.get k).enabled })
    (left : waits = s.links.waits.filter (WaitItem.keptWithout (classesOf q.disable)))
    (offered : v = ((List.finRange 8).filter fun k =>
        q.enable.getLsbD k.val && !(s.notices.get k).enabled && (s.notices.get k).pending).foldl State.offerNotice
      (s.withNotices N waits)) :
    noticeEnable q s = .ok (v, v.classFlags) := by
  have newly : (classesOf q.enable).filter (fun k => !(s.notices.get k).enabled && (s.notices.get k).pending) =
      (List.finRange 8).filter fun k =>
        q.enable.getLsbD k.val && !(s.notices.get k).enabled && (s.notices.get k).pending := by
    simp only [classesOf, List.filter_filter, Bool.and_comm, Bool.and_left_comm]
  have switched : (classesOf q.enable).foldl State.enableClass ((classesOf q.disable).foldl State.disableClass s) =
      s.withNotices N waits := by
    rw [State.foldl_disableClass, State.foldl_enableClass, left]
    refine congrArg (s.withNotices · _) (Tab.ext_get fun k => ?_)
    rw [classes k]
    simp only [State.withNotices, Tab.get_mapIx, mem_classesOf]
    by_cases on : q.enable.getLsbD k.val = true <;> by_cases off : q.disable.getLsbD k.val = true <;>
      simp only [on, off, Bool.false_eq_true, if_true, if_false]
  simp only [noticeEnable, newly, switched, ← offered]

/-- Settles O57: each command by what its owner answers, and a NOTICE by whether it has room. -/
theorem noticeClassesAreReadAndEnabled : Obligations.NoticeClassesAreReadAndEnabled := by
  refine ⟨fun s c k u head reads cleared bs sources => ?read,
    fun s c q N v head reads classes offered bs flags => ?enable,
    fun u k => ⟨fun room => State.offerNotice_room room k, fun full => State.offerNotice_full full k⟩⟩
  case read =>
    subst cleared sources
    have taken := queued_accepted (act := readSources) head reads rfl
    exact ⟨fun room => congrArg _ (taken.1 room), fun full => congrArg _ (taken.2 full)⟩
  case enable =>
    subst flags
    have taken := queued_accepted head reads (noticeEnable_ok classes
      (List.filter_congr fun w _ => by cases w <;> simp [WaitItem.keptWithout]) offered)
    exact ⟨fun room => congrArg _ (taken.1 room), fun full => congrArg _ (taken.2 full)⟩

end Sys2Proof.Machine

/-! ## The queue's stall -/

namespace Sys2Proof.Machine
open Sys2Proof

/-! ### Parameters of fixed layouts (section 8.6) -/

theorem readNothing_some_iff (bs : List Byte) : (∃ u, readNothing bs = some u) ↔ bs = [] := by
  rw [← Option.isSome_iff_exists, readNothing_isSome, List.isEmpty_iff]

/-- One byte below the number of records. -/
theorem readIndex_some_iff (m : Nat) (bs : List Byte) :
    (∃ i, readIndex m bs = some i) ↔ ∃ v : Byte, bs = [v] ∧ v.toNat < m := by
  rcases bs with _ | ⟨b, _ | ⟨d, bs⟩⟩
  · simp [readIndex, index, number]
  · by_cases below : b.toNat < m <;> simp [readIndex, index, number, beValue, whole, below]
  · by_cases below : b.toNat < m <;> simp [readIndex, index, number, beValue, whole, below]

/-- Four bytes below the seconds of a day (R190). -/
theorem readTimeOfDay_some_iff (bs : List Byte) :
    (∃ t, readTimeOfDay bs = some t) ↔ bs.length = 4 ∧ beValue bs < 86400 := by
  obtain short | four | long := Nat.lt_trichotomy bs.length 4
  case inl => simp [readTimeOfDay, ranged, number, short, Nat.ne_of_lt short]
  case inr.inl =>
    have all : bs.take 4 = bs := List.take_of_length_le (Nat.le_of_eq four)
    by_cases within : beValue bs ≤ 86399 <;>
      simp [readTimeOfDay, ranged, number, whole, four, all, within] <;> omega
  case inr.inr =>
    by_cases within : beValue (bs.take 4) ≤ 86399 <;>
      simp [readTimeOfDay, ranged, number, whole, Nat.not_lt_of_lt long, Nat.ne_of_gt long, within]
    all_goals omega

/-! ### When the queue stalls (R188) -/

/-- The codes of no queued command. -/
theorem paramsOk_none_iff (code : Byte) (ps : List Byte) :
    paramsOk code ps = none ↔ code = 0 ∨ 0x1D < code.toNat := by
  rw [← BitVec.toNat_inj, show (0 : Byte).toNat = 0 from rfl]
  unfold paramsOk
  split <;> simp only [reduceCtorEq, false_iff, true_iff, imp_false] at * <;> omega

section
variable {c : Command}

theorem Command.stallReason_unknown (unknown : c.code = 0 ∨ 0x1D < c.code.toNat) :
    c.stallReason = some .unknownCommand := by
  rw [Command.stallReason, (paramsOk_none_iff _ _).mpr unknown]

theorem Command.stallReason_known (nonzero : c.code ≠ 0) (queued : c.code.toNat ≤ 0x1D) :
    c.stallReason = none ∨ c.stallReason = some .malformed := by
  have known : ¬ (c.code = 0 ∨ 0x1D < c.code.toNat) := not_or.mpr ⟨nonzero, Nat.not_lt_of_le queued⟩
  obtain ⟨ok, judged⟩ := Option.ne_none_iff_exists'.mp (mt (paramsOk_none_iff c.code c.params).mp known)
  rw [Command.stallReason, judged]
  cases ok
  · exact .inr rfl
  · exact .inl rfl

/-- A command whose code has a layout stalls the queue unless its parameters read by it. -/
theorem Command.stallReason_none_iff {α : Type} {code : Byte} {parse : List Byte → Option α}
    (layout : ∀ ps, paramsOk code ps = some (parse ps).isSome) (named : c.code = code) :
    c.stallReason = none ↔ ∃ q, parse c.params = some q := by
  rw [Command.stallReason, named, layout]
  cases parse c.params <;> simp

end

section
variable {s : State} {c : Command} {rest : List Command} (front : s.mgmt.queue = c :: rest)
include front

theorem exec_queueStall_bad (running : s.mgmt.stalled = false) (fresh : s.mgmt.phase = .fresh)
    (bad : c.stallReason.isSome = true) : exec .queueStall s =
      .next (({ s with mgmt := { s.mgmt with stalled := true } } : State).setSource .stalled) := by
  have acted : exec .queueStall s = execQueueStall s := rfl
  simp only [acted, execQueueStall, front, running, fresh, bad]
  rfl

theorem exec_queueStall_good (good : c.stallReason = none) : exec .queueStall s = .next s := by
  have acted : exec .queueStall s = execQueueStall s := rfl
  simp [acted, execQueueStall, front, good]

end

end Sys2Proof.Machine

/-! ## FENCE -/

namespace Sys2Proof.Machine
open Sys2Proof

theorem State.fenceReady_iff (s : State) :
    s.fenceReady = true ↔ s.store.activation = none ∧ ∀ r, WaitItem.reply r .activate ∉ s.links.waits := by
  have waiting : s.links.waits.any WaitItem.isActivate = true ↔ ∃ r, WaitItem.reply r .activate ∈ s.links.waits := by
    rw [List.any_eq_true]
    constructor
    · rintro ⟨w, mem, activate⟩
      match w, activate with
      | .reply r .activate, _ => exact ⟨r, mem⟩
    · rintro ⟨r, mem⟩
      exact ⟨_, mem, rfl⟩
  rw [State.fenceReady, Bool.and_eq_true, Option.isNone_iff_eq_none, Bool.not_eq_true', ← Bool.not_eq_true, waiting,
    not_exists]

/-- The state once a FENCE is complete: its fence done source follows its notify flag (R187). -/
def State.fenced (s : State) (c : Command) (notify : Bool) : State :=
  if notify then (s.completed c none []).setSource .fenceDone else s.completed c none []

/-- The state once a FENCE's reply waits for a slot (R154, R187). -/
def State.fenceReplyWaits (s : State) (c : Command) (notify : Bool) : State :=
  { s with
    links := { s.links with waits := s.links.waits ++ [.reply ⟨c.tag, c.code, none, []⟩ (.fence notify)] }
    mgmt := { s.mgmt with phase := .replyWaiting } }

section
variable {s : State} {c : Command} {notify : Bool}

theorem State.offerReply_fence_room (room : s.ReplyRoom) :
    s.offerReply ⟨c.tag, c.code, none, []⟩ (.fence notify) = s.fenced c notify := by
  rw [State.offerReply_room room, State.placeReply_said]
  rfl

theorem State.offerReply_fence_full (full : ¬ s.ReplyRoom) :
    s.offerReply ⟨c.tag, c.code, none, []⟩ (.fence notify) = s.fenceReplyWaits c notify := by
  rw [State.offerReply_full full]
  rfl

theorem exec_fence_ready (head : s.AtHead c 0x19) (reads : readNotify c.params = some notify)
    (ready : s.fenceReady = true) :
    exec .fence s = .next (s.offerReply ⟨c.tag, c.code, none, []⟩ (.fence notify)) := by
  have acted : exec .fence s = execFence s := rfl
  simp only [acted, execFence, head.operand reads, ready, if_true]

theorem exec_fence_early (head : s.AtHead c 0x19) (reads : readNotify c.params = some notify)
    (early : ¬ s.fenceReady = true) :
    exec .fence s = .next { s with mgmt := { s.mgmt with phase := .fenceWaiting } } := by
  have acted : exec .fence s = execFence s := rfl
  simp only [acted, execFence, head.operand reads, if_neg early]
  rfl

/-- A waiting FENCE offers its reply from the fresh head it becomes again. -/
theorem exec_fenceComplete_ready {rest : List Command} (waiting : s.mgmt.phase = .fenceWaiting)
    (front : s.mgmt.queue = c :: rest) (reads : readNotify c.params = some notify) (ready : s.fenceReady = true) :
    exec .fenceComplete s = .next ((s.setMgmt { s.mgmt with phase := .fresh }).offerReply ⟨c.tag, c.code, none, []⟩
      (.fence notify)) := by
  have acted : exec .fenceComplete s = execFenceComplete s := rfl
  simp only [acted, execFenceComplete, waiting, front, reads, ready, if_true]

theorem exec_fenceComplete_early {rest : List Command} (waiting : s.mgmt.phase = .fenceWaiting)
    (front : s.mgmt.queue = c :: rest) (reads : readNotify c.params = some notify) (early : ¬ s.fenceReady = true) :
    exec .fenceComplete s = .next s := by
  have acted : exec .fenceComplete s = execFenceComplete s := rfl
  simp only [acted, execFenceComplete, waiting, front, reads, if_neg early]

end

/-- Settles O55: the stall by the layout of each code; a FENCE, taken or waiting, by whether the earlier commands are
complete and its reply has room. -/
theorem queueStallAndFence : Obligations.QueueStallAndFence := by
  refine ⟨⟨fun s c rest front running fresh => ⟨exec_queueStall_bad front running fresh, exec_queueStall_good front⟩,
    fun c => ⟨Command.stallReason_unknown, Command.stallReason_known, ?nothing, fun time =>
      (Command.stallReason_none_iff (fun _ => rfl) time).trans (readTimeOfDay_some_iff _), ?index⟩,
    fun s c notify done _ reads ⟨rest, front⟩ complete => ?fence⟩, fun c => ?layouts⟩
  case nothing =>
    rintro (named | named | named | named)
    all_goals exact (Command.stallReason_none_iff (fun _ => rfl) named).trans (readNothing_some_iff _)
  case index =>
    rintro n (⟨rfl, named | named | named⟩ | ⟨rfl, named⟩ | ⟨rfl, named | named | named⟩)
    all_goals exact (Command.stallReason_none_iff (fun _ => rfl) named).trans (readIndex_some_iff _ _)
  case layouts =>
    and_intros
    all_goals exact Command.stallReason_none_iff fun _ => rfl
  case fence =>
    have ready : done ↔ s.fenceReady = true := complete.trans s.fenceReady_iff.symm
    refine ⟨fun head => ⟨fun now room => ?placed, fun now full => ?waits, fun early =>
        exec_fence_early head reads (mt ready.mpr early)⟩,
      fun waiting => ⟨fun now room => ?laterPlaced, fun now full => ?laterWaits, fun early =>
        exec_fenceComplete_early waiting front reads (mt ready.mpr early)⟩⟩
    case placed =>
      exact (exec_fence_ready head reads (ready.mp now)).trans (congrArg _ (State.offerReply_fence_room room))
    case waits =>
      exact (exec_fence_ready head reads (ready.mp now)).trans (congrArg _ (State.offerReply_fence_full full))
    case laterPlaced =>
      exact (exec_fenceComplete_ready waiting front reads (ready.mp now)).trans
        (congrArg _ (State.offerReply_fence_room (s := s.setMgmt _) room))
    case laterWaits =>
      exact (exec_fenceComplete_ready waiting front reads (ready.mp now)).trans
        (congrArg _ (State.offerReply_fence_full (s := s.setMgmt _) full))

end Sys2Proof.Machine

/-! ## A step takes the front command -/

namespace Sys2Proof.Machine
open Sys2Proof

theorem step_of_pending_cons {s : State} {c : Instr} {rest : List Instr} (front : s.pending = c :: rest) :
    step s = exec c { s with pending := rest } := by
  simp only [step, front]

theorem step_of_pending_nil {s : State} (empty : s.pending = []) : step s = .next s := by
  simp only [step, empty]

/-- Settles O1: the two cases of the queue. -/
theorem stepRunsFrontCommand : Obligations.StepRunsFrontCommand :=
  ⟨fun _ _ _ => step_of_pending_cons, fun _ => step_of_pending_nil⟩

end Sys2Proof.Machine

/-! ## The shared operations keep the outside's queue -/

namespace Sys2Proof.Machine
open Sys2Proof

/-- What each step of a fold keeps, the fold keeps. -/
theorem foldl_keeps {σ α β : Type} {f : σ → α → σ} {part : σ → β} (keeps : ∀ s a, part (f s a) = part s)
    (as : List α) (s : σ) : part (as.foldl f s) = part s := by
  induction as generalizing s with
  | nil => rfl
  | cons a as ih => exact (ih (f s a)).trans (keeps s a)

@[simp] theorem State.pushSeg_pending (s : State) (p : Fin 4) (f : TxFrame) : (s.pushSeg p f).pending = s.pending :=
  (s.pushSeg_same p f).pending

@[simp] theorem State.offerSeg_pending (s : State) (p : Fin 4) (f : TxFrame) :
    (s.offerSeg p f).pending = s.pending :=
  (s.offerSeg_same p f).pending

@[simp] theorem State.placeReply_pending (s : State) (r : Reply) : (s.placeReply r).pending = s.pending :=
  (s.placeReply_same r).pending

@[simp] theorem State.placeNotice_pending (s : State) (c : Fin 8) : (s.placeNotice c).pending = s.pending :=
  (s.placeNotice_same c).pending

@[simp] theorem State.offerNotice_pending (s : State) (c : Fin 8) : (s.offerNotice c).pending = s.pending :=
  (s.offerNotice_same c).pending

@[simp] theorem State.setSource_pending (s : State) (c : Source) : (s.setSource c).pending = s.pending :=
  (s.setSource_same c).pending

@[simp] theorem State.setSources_pending (s : State) (cs : List Source) : (s.setSources cs).pending = s.pending :=
  (s.setSources_same cs).pending

@[simp] theorem State.complete_pending (s : State) (c : Completes) : (s.complete c).pending = s.pending :=
  (s.complete_same c).pending

@[simp] theorem State.offerReply_pending (s : State) (r : Reply) (c : Completes) :
    (s.offerReply r c).pending = s.pending :=
  (s.offerReply_same r c).pending

@[simp] theorem State.report_pending (s : State) (a : Byte) (g : PortId) (k : Byte) (r : Reason) :
    (s.report a g k r).pending = s.pending :=
  (s.report_same a g k r).pending

@[simp] theorem State.answer_pending (s : State) (x : Ctx) (r : Option Reason) (n : Nat) (bs : List Byte) :
    (s.answer x r n bs).pending = s.pending :=
  (s.answer_same x r n bs).pending

@[simp] theorem State.forward_pending (s : State) (x : Ctx) (a : Bool) (bs : List Byte) :
    (s.forward x a bs).pending = s.pending :=
  (s.forward_same x a bs).pending

@[simp] theorem State.raiseDockFault_pending (s : State) (T : Timing) (d : Fin 2) (a : Byte) (p : Fin 4) (k : Byte)
    (r : Reason) : (s.raiseDockFault T d a p k r).pending = s.pending := by
  simp only [State.raiseDockFault, State.report_pending, State.setSource_pending]

@[simp] theorem State.expiryFault_pending (s : State) (d : Fin 2) (r : Reason) :
    (s.expiryFault d r).pending = s.pending := by
  unfold State.expiryFault
  split
  · exact State.raiseDockFault_pending ..
  · exact State.setSource_pending ..

/-! ### Station frames and expiries -/

/-- The state an owner's ruling leaves, before the answer and what follows it. -/
def Ruling.left {σ : Type} : Ruling σ → σ
  | .refuse _ _ _ _ s => s
  | .accept a => a.next

theorem Ruling.on_left {σ τ : Type} (f : σ → τ) (r : Ruling σ) : (r.on f).left = f r.left := by
  cases r <;> rfl

theorem settle_pending (x : Ctx) (r : Ruling State) : (settle x r).pending = r.left.pending := by
  cases r with
  | refuse r place result after s => cases after <;> simp [settle, Ruling.left]
  | accept a => cases call : a.call <;> simp [settle, Ruling.left, call]

/-- A frame's arrival and its owner's ruling keep the outside's queue where the owner keeps it. -/
theorem stationFrame_pending {α : Type} {own : Ctx → α → State → Ruling State} {s : State}
    (keeps : ∀ x a, (own x a s).left.pending = s.pending) (c : KindClass) (parse : List Byte → Option α) (p : Fin 4)
    (b : FrameBody) : (stationFrame c parse own p b s).pending = s.pending := by
  unfold stationFrame
  split
  case h_1 => rfl
  case h_2 => exact State.setSeg_pending ..
  case h_3 x r _ => exact settle_pending x _
  case h_4 x a _ => exact (settle_pending x _).trans (keeps x a)

theorem bookFrame_pending {α : Type} (k : OwnedKind) (parse : List Byte → Option α)
    (own : Ctx → α → Books → Ruling Books) (p : Fin 4) (b : FrameBody) (s : State) :
    (bookFrame k parse own p b s).pending = s.pending :=
  stationFrame_pending (fun x a => (congrArg State.pending (Ruling.on_left s.withBooks (own x a s.books))).trans rfl)
    _ _ p b

theorem bookExpiry_pending (f : Books → Option (Accepted Books)) (s : State) :
    (bookExpiry f s).pending = s.pending := by
  unfold bookExpiry
  split
  · rfl
  · exact State.setSources_pending ..

theorem announce_left_pending (x : Ctx) (u : Unit) (s : State) : (announce x u s).left.pending = s.pending := rfl

theorem ready_left_pending (x : Ctx) (u : Unit) (s : State) : (ready x u s).left.pending = s.pending := by
  unfold ready
  split <;> rfl

/-! ### Queued commands -/

/-- A queued command keeps the outside's queue where its owner does. -/
theorem queued_pending {α : Type} {act : α → State → Except Reason (State × List Byte)} {s : State}
    (keeps : ∀ a t result, act a s = .ok (t, result) → t.pending = s.pending) (code : Byte)
    (parse : List Byte → Option α) : (queued code parse act s).pending = s.pending := by
  unfold queued
  split
  case h_1 => rfl
  case h_2 c a _ =>
    split
    case h_1 r _ => exact State.offerReply_pending ..
    case h_2 t result acted => exact (State.offerReply_pending ..).trans (keeps a t result acted)

theorem queuedBooks_pending {α : Type} (code : Byte) (parse : List Byte → Option α)
    (act : α → State → Except Reason (Books × List Byte)) (s : State) :
    (queuedBooks code parse act s).pending = s.pending := by
  refine queued_pending (fun a t result acted => ?_) code parse
  split at acted <;> cases acted
  rfl

theorem queuedRead_pending {α : Type} (code : Byte) (parse : List Byte → Option α)
    (act : α → State → Except Reason (List Byte)) (s : State) : (queuedRead code parse act s).pending = s.pending := by
  refine queued_pending (fun a t result acted => ?_) code parse
  split at acted <;> cases acted
  rfl

theorem tableWrite_keeps_pending {q : TableWrite} {s t : State} {result : List Byte}
    (acted : tableWrite q s = .ok (t, result)) : t.pending = s.pending := by
  unfold tableWrite at acted
  split at acted
  · cases acted
  · split at acted <;> cases acted
    rfl

theorem State.disableClass_pending (s : State) (c : Fin 8) : (s.disableClass c).pending = s.pending := rfl

theorem State.enableClass_pending (s : State) (c : Fin 8) : (s.enableClass c).pending = s.pending := rfl

theorem noticeEnable_keeps_pending {q : NoticeEnable} {s t : State} {result : List Byte}
    (acted : noticeEnable q s = .ok (t, result)) : t.pending = s.pending := by
  cases acted
  rw [foldl_keeps State.offerNotice_pending, foldl_keeps State.enableClass_pending,
    foldl_keeps State.disableClass_pending]

/-- A till's CLOSE_CALL frames, over the pair of the state and the number placed. -/
theorem sendCloseCalls_pending (t : Fin 160) (T : Tables) (as : List Byte) (sn : State × Nat) :
    (sendCloseCalls t T as sn).1.pending = sn.1.pending := by
  refine foldl_keeps (part := fun sn : State × Nat => sn.1.pending) (fun sn a => ?_) as sn
  dsimp only
  split
  · exact State.offerSeg_pending ..
  · rfl

theorem closeCallAct_pending (f : CloseCall) (s : State) : (closeCallAct f s).1.pending = s.pending :=
  foldl_keeps (part := fun sn : State × Nat => sn.1.pending) (fun sn t => sendCloseCalls_pending t _ _ sn) _ _

/-! ### Changes of bank -/

@[simp] theorem State.setPortBank_pending (s : State) (p : PortId) (b : Fin 2) :
    (s.setPortBank p b).pending = s.pending := by
  cases p <;> rfl

@[simp] theorem State.completeActivation_pending (s : State) (tag : BitVec 16) :
    (s.completeActivation tag).pending = s.pending :=
  State.offerReply_pending ..

@[simp] theorem State.completeIfLast_pending (s : State) : s.completeIfLast.pending = s.pending := by
  unfold State.completeIfLast
  split
  · split
    · exact State.completeActivation_pending ..
    · rfl
  · rfl

@[simp] theorem State.switchPort_pending (s : State) (p : PortId) : (s.switchPort p).pending = s.pending := by
  unfold State.switchPort
  split
  · simp
  · rfl

@[simp] theorem State.switchAll_pending (s : State) : s.switchAll.pending = s.pending := by
  rw [State.switchAll, State.completeIfLast_pending]
  refine foldl_keeps (fun s p => ?_) allPorts s
  split
  · exact State.setPortBank_pending ..
  · rfl

/-! ### Management frames -/

theorem State.resume_pending (s : State) (c : Command) : (s.resume c).pending = s.pending := by
  unfold State.resume
  split
  · simp [State.replyNow, State.discard]
  · exact State.offerReply_pending ..

theorem State.flush_pending (s : State) (c : Command) : (s.flush c).pending = s.pending :=
  (State.offerReply_pending ..).trans (foldl_keeps (fun s _ => State.offerReply_pending s _ _) _ _)

theorem State.immediate_pending (s : State) (c : Command) : (s.immediate c).pending = s.pending := by
  unfold State.immediate
  split
  · exact State.offerReply_pending ..
  · split
    · exact State.offerReply_pending ..
    · split
      · exact s.resume_pending c
      · exact s.flush_pending c

theorem State.takeCommand_pending (s : State) (c : Command) : (s.takeCommand c).pending = s.pending := by
  unfold State.takeCommand
  split
  · exact s.immediate_pending c
  · rfl

theorem State.takeCommands_pending (s : State) (cs : List Command) : (s.takeCommands cs).pending = s.pending := by
  unfold State.takeCommands
  dsimp only
  split
  · exact foldl_keeps State.takeCommand_pending cs s
  · split
    · exact foldl_keeps State.takeCommand_pending cs s
    · exact (foldl_keeps State.immediate_pending _ _).trans (State.offerReply_pending ..)

theorem State.takePayload_pending (s : State) (payload : List Byte) : (s.takePayload payload).pending = s.pending := by
  unfold State.takePayload
  split
  · exact State.offerReply_pending ..
  · exact s.takeCommands_pending _

theorem managementArrival_pending (b : FrameBody) (s : State) : (managementArrival b s).pending = s.pending := by
  unfold managementArrival
  split
  · rfl
  · rfl
  · exact s.finishUp.takePayload_pending _

end Sys2Proof.Machine

/-! ## Every command answers a next state -/

namespace Sys2Proof.Machine
open Sys2Proof

/-- A command answered with a next state whose outside's queue is that of the state it was taken in. -/
def State.QueueKept (s : State) (r : Result) : Prop := ∃ t, r = .next t ∧ t.pending = s.pending

theorem State.QueueKept.next {s t : State} (kept : t.pending = s.pending) : s.QueueKept (.next t) := ⟨t, rfl, kept⟩

/-- A frame of one command taken as a management frame, or nothing (R189). -/
theorem State.QueueKept.managementArrival (code : Byte) (b : FrameBody) (s : State) :
    s.QueueKept (.next (if oneCommand code b.payload then Machine.managementArrival b s else s)) := by
  split
  · exact .next (managementArrival_pending b s)
  · exact .next rfl

section
variable (s : State)

/-! ### The rows of chapter 8 -/

theorem execLinkUp_queueKept (p : PortId) : s.QueueKept (execLinkUp p s) := by
  cases p <;> exact .next rfl

theorem execLinkDown_queueKept (p : PortId) : s.QueueKept (execLinkDown p s) := by
  refine .next ?_
  cases p with
  | u =>
    dsimp only
    split <;> rfl
  | s p =>
    dsimp only
    split <;> rfl

theorem execSegmentFrameHeader_queueKept (p : Fin 4) (h : FrameHeader) :
    s.QueueKept (execSegmentFrameHeader p h s) := by
  refine .next ?_
  split <;> exact (State.setSeg_pending ..).trans (s.switchPort_pending _)

theorem execUplinkFrameHeader_queueKept (h : FrameHeader) : s.QueueKept (execUplinkFrameHeader h s) := by
  refine .next ?_
  split <;> exact (State.setUport_pending ..).trans (s.switchPort_pending _)

theorem execReceiveCheckFail_queueKept (p : PortId) (b : FrameBody) : s.QueueKept (execReceiveCheckFail p b s) := by
  refine .next ?_
  cases p with
  | u =>
    dsimp only
    split
    · split <;> rfl
    · rfl
  | s p =>
    dsimp only
    split
    · split <;> rfl
    · rfl

theorem execPassFrame_queueKept (p : Fin 4) (b : FrameBody) : s.QueueKept (execPassFrame p b s) := by
  refine .next ?_
  split
  case h_1 => rfl
  case h_2 => rfl
  case h_3 x r _ => exact settle_pending x _
  case h_4 => rfl

theorem execDownstreamFrame_queueKept (b : FrameBody) : s.QueueKept (execDownstreamFrame b s) := by
  refine .next ?_
  split
  case h_1 => rfl
  case h_2 => rfl
  case h_3 h _ =>
    dsimp only
    split
    · exact State.report_pending ..
    · split
      · exact State.pushSeg_pending ..
      · exact State.report_pending ..

theorem execDestination255Frame_queueKept (b : FrameBody) : s.QueueKept (execDestination255Frame b s) := by
  refine .next ?_
  split
  · rfl
  · rfl
  · exact State.report_pending ..

theorem execSegmentFrameSent_queueKept (p : Fin 4) : s.QueueKept (execSegmentFrameSent p s) := by
  refine .next ?_
  split
  · split <;> rfl
  · rfl

theorem execUplinkFrameSent_queueKept : s.QueueKept (execUplinkFrameSent s) := by
  refine .next ?_
  split
  · split <;> rfl
  · rfl

theorem execWaitingReplyPlaced_queueKept : s.QueueKept (execWaitingReplyPlaced s) := by
  refine .next ?_
  split
  case h_1 w rest _ =>
    split
    · cases w with
      | reply r c => exact (State.complete_pending ..).trans (State.placeReply_pending ..)
      | notice c => exact State.placeNotice_pending ..
    · rfl
  case h_2 => rfl

theorem execCommonSlotGrant_queueKept : s.QueueKept (execCommonSlotGrant s) := by
  refine .next ?_
  split
  · split <;> rfl
  · rfl

/-! ### The expiries that raise a dock fault or fail an admission -/

theorem execAdmissionTimerExpiry_queueKept (a : Byte) : s.QueueKept (execAdmissionTimerExpiry a s) := by
  refine .next ?_
  split
  · exact State.setSource_pending ..
  · rfl

theorem execArrivalQualificationExpiry_queueKept (d : Fin 2) : s.QueueKept (execArrivalQualificationExpiry d s) := by
  refine .next ?_
  split
  · rfl
  · exact s.expiryFault_pending d _
  · exact State.setSources_pending ..

theorem execPairingTimerExpiry_queueKept (d : Fin 2) : s.QueueKept (execPairingTimerExpiry d s) := by
  refine .next ?_
  split
  · exact s.expiryFault_pending d _
  · rfl

theorem execHandoverTimerExpiry_queueKept (d : Fin 2) : s.QueueKept (execHandoverTimerExpiry d s) := by
  refine .next ?_
  split
  · rfl
  · exact s.expiryFault_pending d _
  · exact State.setSources_pending ..

/-! ### The rows of the Management Engine and the ACTIVATE -/

theorem execQueueStall_queueKept : s.QueueKept (execQueueStall s) := by
  refine .next ?_
  split
  · split
    · exact State.setSource_pending ..
    · rfl
  · rfl

theorem execFence_queueKept : s.QueueKept (execFence s) := by
  refine .next ?_
  split
  · rfl
  · split
    · exact State.offerReply_pending ..
    · rfl

theorem execFenceComplete_queueKept : s.QueueKept (execFenceComplete s) := by
  refine .next ?_
  split
  · split
    · split
      · exact State.offerReply_pending ..
      · rfl
    · rfl
  · rfl

theorem execSoftReset_queueKept : s.QueueKept (execSoftReset s) := by
  refine .next ?_
  split
  · rfl
  · exact State.offerReply_pending ..

theorem execActivate_queueKept : s.QueueKept (execActivate s) := by
  refine .next ?_
  split
  · rfl
  · split
    · exact State.offerReply_pending ..
    · exact State.switchAll_pending _

end

/-- Every row, by the shared operation it is made of. -/
theorem exec_queueKept (i : Instr) (s : State) : s.QueueKept (exec i s) := by
  cases i with
  | powerOnReset | timeOfDayTick => exact .next rfl
  | linkUp p => exact execLinkUp_queueKept s p
  | linkDown p => exact execLinkDown_queueKept s p
  | segmentFrameHeader p h => exact execSegmentFrameHeader_queueKept s p h
  | uplinkFrameHeader h => exact execUplinkFrameHeader_queueKept s h
  | receiveCheckFail p b => exact execReceiveCheckFail_queueKept s p b
  | passFrame p b => exact execPassFrame_queueKept s p b
  | outboundKindStationFrame p b => exact .next (stationFrame_pending (fun _ _ => rfl) _ _ p b)
  | announce p b => exact .next (stationFrame_pending (announce_left_pending · · s) _ _ p b)
  | ready p b => exact .next (stationFrame_pending (ready_left_pending · · s) _ _ p b)
  | tillOpen p b | tillTender p b | tillPaidout p b | tillPickup p b | tillClose p b
  | dropRequest p b | dropDone p b | dropCancel p b | bagOut p b | bagIn p b | pouchIn p b
  | countOpen p b | countData p b | countRecount p b | countAbort p b | countClose p b | release p b
  | arriveBeacon p b | custodyPresent p b | itemOut p b | itemIn p b | handoverEnd p b | departBeacon p b =>
    exact .next (bookFrame_pending _ _ _ p b s)
  | pickupTimerExpiry _ | carryTimerExpiry _ | grantTimerExpiry _ | transferTimerExpiry _ | idleTimerExpiry _
  | arrivalGapExpiry _ | departureQualificationExpiry _ | departureGapExpiry _ | lockoutTimerExpiry _ =>
    exact .next (bookExpiry_pending _ s)
  | admissionTimerExpiry a => exact execAdmissionTimerExpiry_queueKept s a
  | arrivalQualificationExpiry d => exact execArrivalQualificationExpiry_queueKept s d
  | pairingTimerExpiry d => exact execPairingTimerExpiry_queueKept s d
  | handoverTimerExpiry d => exact execHandoverTimerExpiry_queueKept s d
  | downstreamFrame b => exact execDownstreamFrame_queueKept s b
  | destination255Frame b => exact execDestination255Frame_queueKept s b
  | managementFrame b => exact .next (managementArrival_pending b s)
  | readStatus b | resume b | flush b => exact .managementArrival _ b s
  | queueStall => exact execQueueStall_queueKept s
  | opening | purgeClosed | floatIssue | floatRecall | consignCreate | consignLoad | consignAdd | consignRemove
  | consignReady | consignCancel | openHandover | dockUnlock => exact .next (queuedBooks_pending _ _ _ s)
  | readPositions | readDeposit | readTill | readSafe | readLane | readDock | readFaults | tableRead =>
    exact .next (queuedRead_pending _ _ _ s)
  | closeCall =>
    refine .next (queued_pending (fun f t result acted => ?_) _ _)
    cases acted
    exact closeCallAct_pending f s
  | faultClear | setTime | readSources =>
    refine .next (queued_pending (fun _ t result acted => ?_) _ _)
    cases acted
    rfl
  | tableWrite => exact .next (queued_pending (fun _ _ _ => tableWrite_keeps_pending) _ _)
  | noticeEnable => exact .next (queued_pending (fun _ _ _ => noticeEnable_keeps_pending) _ _)
  | activate => exact execActivate_queueKept s
  | portBankSwitch p => exact .next (s.switchPort_pending p)
  | fence => exact execFence_queueKept s
  | fenceComplete => exact execFenceComplete_queueKept s
  | softReset => exact execSoftReset_queueKept s
  | segmentFrameSent p => exact execSegmentFrameSent_queueKept s p
  | uplinkFrameSent => exact execUplinkFrameSent_queueKept s
  | waitingReplyPlaced => exact execWaitingReplyPlaced_queueKept s
  | commonSlotGrant => exact execCommonSlotGrant_queueKept s

/-- Settles O2: each row is made of operations that keep the outside's queue. -/
theorem everyCommandAnswersNext : Obligations.EveryCommandAnswersNext :=
  exec_queueKept

end Sys2Proof.Machine
